-- ==== Sys2Proof/Word.lean ====
section
/-! DEFINITION. The byte and the 16-bit word: the only two widths the manual treats as bits outside the
node (frame bytes, record bytes, the frame check register). Every measured or counted quantity of the node
is a whole number and is kept as Nat or Int. -/

namespace Sys2Proof

/-- A byte of a frame or of the commissioning record (R194, R198). -/
abbrev Byte := BitVec 8

/-- The frame check register and the retention check value are 16 bits wide (R197, R186). -/
abbrev Word16 := BitVec 16

end Sys2Proof
end

