-- ==== Sys2Proof/Types.lean ====
section
/-! DEFINITION. The plain data the blocks of the node hold: the named values of the manual's state tables, the
commissioning profile, and the contents of the retention domain. No operation stands here. -/

namespace Sys2Proof

/-- The two pulse inputs of the shunt converter (R1). -/
inductive Direction where
  | chg
  | dsg
deriving DecidableEq, Repr, Inhabited

/-- Activity of the rest detector (R20). -/
inductive Activity where
  | dormant
  | active
deriving DecidableEq, Repr, Inhabited

/-- Rest states (R22 to R30). -/
inductive RestState where
  | moving
  | settling
  | capturePending
  | rested
  | postPulseSettling
deriving DecidableEq, Repr, Inhabited

/-- Pulse states (chapter The Resistance Pulse). -/
inductive PulseState where
  | idle
  | pulsing
  | returnCheck
deriving DecidableEq, Repr, Inhabited

/-- The class of a module, best first (R68). -/
inductive GradeClass where
  | a
  | b
  | c
  | x
deriving DecidableEq, Repr, Inhabited

/-- Bond states (R139). -/
inductive BondState where
  | unready
  | free
  | proposing
  | held
  | bonded
  | bondedSilent
  | rejected
deriving DecidableEq, Repr, Inhabited

/-- Link modes (R98). -/
inductive LinkMode where
  | listen
  | up
  | muted
deriving DecidableEq, Repr, Inhabited

/-- Receiver states (R84). -/
inductive ReceiverState where
  | off
  | hunt
  | receiving
  | skipping
deriving DecidableEq, Repr, Inhabited

/-- Transmitter states (R89). -/
inductive TransmitterState where
  | idle
  | wait
  | sending
  | holdoff
deriving DecidableEq, Repr, Inhabited

/-- Commissioning states (R166, R170, R171, R175, R179). -/
inductive CommissioningState where
  | loading
  | awaitingProfile
  | numbering
  | ready
  | failed
deriving DecidableEq, Repr, Inhabited

/-- Numbering states; before NUMBERING there is none (R175 to R181). -/
inductive NumberingState where
  | chainWait
  | quietWait
  | claiming
  | numbered
  | conflict
  | noNumber
deriving DecidableEq, Repr, Inhabited

/-- How a node number was reached (R105, R175). -/
inductive NumberMethod where
  | fixed
  | chained
  | retained
deriving DecidableEq, Repr, Inhabited

/-- Where the profile came from (R166). -/
inductive ProfileSource where
  | externalMemory
  | builtIn
  | bus
deriving DecidableEq, Repr, Inhabited

/-- Supply states (R184). -/
inductive SupplyState where
  | off
  | start
  | run
  | hold
  | reset
deriving DecidableEq, Repr, Inhabited

/-- Pending start kinds (R184). -/
inductive StartKind where
  | cold
  | warm
  | restart
deriving DecidableEq, Repr, Inhabited

/-- DECLINE reasons 1 to 8, and SILENT, which has no code and is never sent (R108, R132). -/
inductive DeclineReason where
  | bonded
  | busy
  | rank
  | notReady
  | frozen
  | ineligible
  | unknown
  | stale
  | silent
deriving DecidableEq, Repr, Inhabited

/-- RELEASE reasons 1 to 5 (R108). -/
inductive ReleaseReason where
  | late
  | regrade
  | classChange
  | campaign
  | inconsistent
deriving DecidableEq, Repr, Inhabited

/-- CAMPAIGN actions with a code of their own (R118). -/
inductive CampaignAction where
  | start
  | freeze
  | regrade
  | releaseAll
deriving DecidableEq, Repr, Inhabited

/-- The level of the LOAD pin; it is undriven outside RUN and before the profile is in force (R41). -/
inductive LoadPin where
  | undriven
  | low
  | high
deriving DecidableEq, Repr, Inhabited

/-- One breakpoint of the OCV table: cell voltage in mV, SOC in ‰ (R56). -/
structure OcvPoint where
  mv : Nat
  soc : Nat
deriving DecidableEq, Repr, Inhabited

/-- A rest point: the six fields of R26. -/
structure RestPoint where
  time : Nat
  ocv : Nat
  cell : Nat
  soc : Nat
  charge : Int
  temperature : Int
deriving DecidableEq, Repr, Inhabited

/-- The pair last offered, by the capture times of its high and its low point (R34). -/
structure PairTimes where
  high : Nat
  low : Nat
deriving DecidableEq, Repr, Inhabited

/-- The Grade Record with the grade epoch beside it (R53). -/
structure GradeRecord where
  capacity : Option Nat
  estimateCount : Nat
  lastDeltaSoc : Option Nat
  soh : Option Nat
  resistance : Option Nat
  r25c : Option Nat
  pulseTemperature : Option Int
  ratio : Option Nat
  sd : Option Nat
  gradeClass : Option GradeClass
  epoch : Nat
deriving DecidableEq, Repr, Inhabited

/-- The node number with the method that reached it (R179). -/
structure NodeNumber where
  number : Nat
  method : NumberMethod
deriving DecidableEq, Repr, Inhabited

/-- The profile: every value of the table of R169. `holdoff` is in tenths of a ms. -/
structure Profile where
  calibration : Nat
  gateCode : Nat
  toleranceCode : Nat
  chemistry : Nat
  series : Nat
  ocv : List OcvPoint
  restThreshold : Nat
  restTime : Nat
  longRestTime : Nat
  captureLow : Int
  captureHigh : Int
  startActivity : Activity
  pulseWidth : Nat
  pulseInterval : Nat
  pulseLow : Int
  pulseHigh : Int
  minimumStep : Nat
  alpha : Nat
  loadActiveLow : Bool
  minimumWindow : Nat
  smoothing : Nat
  ratedCapacity : Nat
  ratedResistance : Nat
  sA : Nat
  sB : Nat
  sC : Nat
  rA : Nat
  rB : Nat
  rC : Nat
  dA : Nat
  dB : Nat
  dC : Nat
  bitRateCode : Nat
  holdoff : Nat
  announceInterval : Nat
  wC : Nat
  wR : Nat
  wD : Nat
  matchLimit : Nat
  peerAgeLimit : Nat
  backoff : Nat
  proposalInterval : Nat
  replyTime : Nat
  holdTime : Nat
  acceptanceMargin : Nat
  partnerTimeout : Nat
  joinLimit : Nat
  nodeNumber : Nat
  sharing : Bool
deriving DecidableEq, Repr, Inhabited

/-- The retained items of R187 that the retention check value covers. The seconds counter is kept outside the
CRC (R187) and stands in `Domain`. -/
structure Retained where
  /-- Charge divider residue, counts (R2). -/
  residue : Int
  /-- Charge counter, mAh (R4). -/
  charge : Int
  /-- Rest Point List, oldest first (R32). -/
  points : List RestPoint
  /-- Pair last offered (R34). -/
  offered : Option PairTimes
  /-- Activity of the rest detector (R20). -/
  activity : Activity
  /-- Last valid pulse time, s (R48). -/
  lastPulse : Option Nat
  /-- Grade Record, estimate count and grade epoch (R53). -/
  grade : GradeRecord
  /-- Bond state (R139). -/
  bondState : BondState
  /-- Engaged number (R139). -/
  engaged : Option Nat
  /-- Freeze flag (R159). -/
  freeze : Bool
  /-- The loaded profile's values, or none (R187). -/
  profile : Option Profile
  /-- The profile's source (R187). -/
  source : Option ProfileSource
  /-- Whether the profile is in force (R187). -/
  inForce : Bool
  /-- Profile check value, or absent (R174). -/
  profileCheck : Option Word16
  /-- Node number and method, or absent (R179). -/
  number : Option NodeNumber
  /-- Campaign number, or absent (R117). -/
  campaign : Option Nat
  /-- Cold marker (R190). -/
  coldMarker : Bool
deriving DecidableEq, Repr, Inhabited

/-- The whole retention domain: the covered items, the two copies of the seconds counter, the two check words
and the retention check value (R186, R187). -/
structure Domain where
  ret : Retained
  seconds : Nat
  secondsCopy : Nat
  word1 : Word16
  word2 : Word16
  check : Word16
deriving DecidableEq, Repr, Inhabited

end Sys2Proof
end

