-- ==== Sys2Proof/Syntax.lean ====
section
/-! DEFINITION. The commands of the block: one constructor per row of spec/opcode_table.json. The table gives its
rows no fields, so an operand here is what the world outside the node supplies at that event (a reading, the
levels of the straps, the bits of the line, which peer): DESIGN CHOICE, log entry 2. Frame commands carry no
operand: the frame they take stands in the receive FIFO. -/

namespace Sys2Proof

/-- What the world supplies at a start: the readings on entering RUN (R9, R11), the straps (R166), the bytes the
serial memory returns (R168), and what a dip of the supply has made of the retention domain (R187), `none` when
the contents stand as the node left them. -/
structure StartInputs where
  /-- VSENSE in whole mV, before the clamp of R9. -/
  vsense : Int
  /-- TSENSE in thousandths of a °C, before the rounding and clamp of R11. -/
  tsense : Int
  cfg1 : Bool
  cfg0 : Bool
  /-- The 131 bytes clocked in on SDI from address 0000H. -/
  memory : List Byte
  upset : Option Domain
deriving DecidableEq, Repr, Inhabited

/-- One command per row of the opcode table, in the table's order. -/
inductive Instr where
  /-- CHARGE_PULSE (R1). -/
  | chargePulse (dir : Direction)
  /-- WINDOW_CLOSE (R6), with VSENSE at the close in mV. -/
  | windowClose (vsense : Int)
  /-- SECONDS_COUNTER_INCREMENT (R189), with TSENSE in thousandths of a °C. -/
  | secondsCounterIncrement (tsense : Int)
  /-- REST_TIMER_EXPIRY (R24, R28). -/
  | restTimerExpiry
  /-- REMOVAL_REQUEST (R35). -/
  | removalRequest
  /-- LONG_REST_EXPIRY (R30). -/
  | longRestExpiry
  /-- PEER_AGE_REMOVAL (R131) of the entry of that number. -/
  | peerAgeRemoval (number : Nat)
  /-- DECLINE_MARK_EXPIRY (R133) of the mark on the entry of that number. -/
  | declineMarkExpiry (number : Nat)
  /-- ANNOUNCE_TIMER_EXPIRY (R111). -/
  | announceTimerExpiry
  /-- PROPOSAL_TIMER_EXPIRY (R143). -/
  | proposalTimerExpiry
  /-- REPLY_TIMER_EXPIRY (R149). -/
  | replyTimerExpiry
  /-- HOLD_TIMER_EXPIRY (R151). -/
  | holdTimerExpiry
  /-- PARTNER_TIMER_EXPIRY (R153). -/
  | partnerTimerExpiry
  /-- QUIET_TIMER_EXPIRY (R177). -/
  | quietTimerExpiry
  /-- REQUEST_TIMER_EXPIRY (R171). -/
  | requestTimerExpiry
  /-- HOLDOFF_EXPIRY (R93). -/
  | holdoffExpiry
  /-- ATTEMPT_BEGIN (R89), with the bits sampled since the last line command. -/
  | attemptBegin (bits : List Bool)
  /-- ARBITRATION_LOSS (R90), with the bits up to the one lost. -/
  | arbitrationLoss (bits : List Bool)
  /-- TRANSMIT_LINE_FAULT (R91), with the bits up to the faulty one. -/
  | transmitLineFault (bits : List Bool)
  /-- ATTEMPT_COMPLETE (R92), with the bits up to the last one of the frame. -/
  | attemptComplete (bits : List Bool)
  /-- STUCK_DOMINANT_LINE (R79), with the bits up to the one that completes 1 s. -/
  | stuckDominantLine (bits : List Bool)
  /-- BUS_RESET (R78), with the bits up to the 64th dominant one. -/
  | busReset (bits : List Bool)
  /-- RECEIVE_ABORT (R81), with the bits up to the one that aborts. -/
  | receiveAbort (bits : List Bool)
  /-- FRAME_RECEIVED (R86), with the bits up to the last one of the closing delimiter. -/
  | frameReceived (bits : List Bool)
  /-- UNKNOWN_KIND (R103). -/
  | unknownKind
  /-- ENUM (R105). -/
  | enum
  /-- ANNOUNCE (R123). -/
  | announce
  /-- PROPOSE (R144). -/
  | propose
  /-- ACCEPT (R147). -/
  | accept
  /-- DECLINE (R148). -/
  | decline
  /-- CONFIRM (R150). -/
  | confirm
  /-- RELEASE (R155). -/
  | release
  /-- QUERY (R114). -/
  | query
  /-- GRADE (R116). -/
  | grade
  /-- CAMPAIGN_START (R21). -/
  | campaignStart
  /-- CAMPAIGN_FREEZE (R159). -/
  | campaignFreeze
  /-- CAMPAIGN_REGRADE (R72). -/
  | campaignRegrade
  /-- CAMPAIGN_RELEASE_ALL (R160). -/
  | campaignReleaseAll
  /-- CAMPAIGN_UNKNOWN_ACTION (R119). -/
  | campaignUnknownAction
  /-- PROFILE_REQUEST (R173). -/
  | profileRequest
  /-- PROFILE_SEGMENT (R172). -/
  | profileSegment
  /-- CHAIN_IN_ACTIVE (R177). -/
  | chainInActive
  /-- SUPPLY_AT_RUN_LEVEL (R184). -/
  | supplyAtRunLevel (inputs : StartInputs)
  /-- SUPPLY_BELOW_HOLD_LEVEL (R188). -/
  | supplyBelowHoldLevel
  /-- SUPPLY_BELOW_RETENTION_LIMIT (R184). -/
  | supplyBelowRetentionLimit
  /-- RESET_ASSERTED (R185). -/
  | resetAsserted
  /-- RESET_RELEASED (R185): whether the supply stands at run level at the release, and the start's inputs. -/
  | resetReleased (atRunLevel : Bool) (inputs : StartInputs)
  /-- OPENING_DELIMITER (R84), with the bits up to the last one of the delimiter. -/
  | openingDelimiter (bits : List Bool)
  /-- CHAIN_IN_INACTIVE (R176). -/
  | chainInInactive
deriving DecidableEq, Repr

end Sys2Proof
end

