-- ==== Sys2Proof/Decode.lean ====
section
/-! DEFINITION. The command that a word of the opcode table spells. The node has no instruction decoder, and no row
of spec/opcode_table.json gives bits ("n_rows_with_fixed": 0 in 98_reader.md), so every word is rejected. -/

namespace Sys2Proof

/-- No row of the table gives bits: no word spells a command. -/
def decodeTableWord (_nbits _w : Nat) : Option Instr := none

end Sys2Proof
end

