-- ==== Sys2Proof/Config.lean ====
section
/-! DEFINITION. What the part fixes for every machine (the built-in default profile of R169, the holding values
of R167, the limits the rules name) and the two FREE VALUES the manual leaves open: they have no body, so
nothing can be proved of the values they give. -/

namespace Sys2Proof

/-- The charge counter's limits (R4). -/
def Config.chargeMax : Int := 8388607
def Config.chargeMin : Int := -8388608

/-- Saturation of the current sample, mA (R8). -/
def Config.currentMax : Int := 2000000

/-- Saturation of R, R25C and Cest: the largest 3-byte value (R46, R47, R60). -/
def Config.max24 : Nat := 16777215

/-- Saturation of the ratio, of SD and of the score: the largest 2-byte value (R65, R67, R126). -/
def Config.max16 : Nat := 65535

/-- The seconds counter stops here (R189). -/
def Config.secondsMax : Nat := 4294967295

/-- Places of the Rest Point List (R32). -/
def Config.listPlaces : Nat := 8

/-- Places of the receive FIFO and of the transmit queue (R87, R95). -/
def Config.queuePlaces : Nat := 4

/-- Entries of the peer table (R122). -/
def Config.tablePlaces : Nat := 32

/-- Recessive bits that make the line idle (R77). -/
def Config.idleBits : Nat := 11

/-- Dominant bits that make a bus reset (R78). -/
def Config.busResetBits : Nat := 64

/-- Bits taken as content at which a frame is aborted as too long (R82). -/
def Config.tooLongBits : Nat := 368

/-- The quiet timer, ms (R177), and the request timer, ms (R171). -/
def Config.quietMs : Nat := 50
def Config.requestMs : Nat := 2000

/-- The two check words of the retention domain (R186). -/
def Config.checkWord1 : Word16 := 0xAA55#16
def Config.checkWord2 : Word16 := 0x55AA#16

/-- The built-in default profile: the Default column of R169. -/
def Config.defaultProfile : Profile where
  calibration := 7200
  gateCode := 3
  toleranceCode := 2
  chemistry := 0
  series := 14
  ocv := [⟨3000, 0⟩, ⟨3400, 100⟩, ⟨3550, 300⟩, ⟨3600, 450⟩, ⟨3650, 550⟩, ⟨3750, 700⟩, ⟨3900, 850⟩, ⟨4100, 1000⟩]
  restThreshold := 500
  restTime := 30
  longRestTime := 14
  captureLow := 5
  captureHigh := 40
  startActivity := .active
  pulseWidth := 500
  pulseInterval := 24
  pulseLow := 0
  pulseHigh := 45
  minimumStep := 2000
  alpha := 8
  loadActiveLow := false
  minimumWindow := 100
  smoothing := 4
  ratedCapacity := 94000
  ratedResistance := 12000
  sA := 800
  sB := 650
  sC := 500
  rA := 1300
  rB := 1600
  rC := 2000
  dA := 10
  dB := 30
  dC := 60
  bitRateCode := 1
  holdoff := 20
  announceInterval := 5
  wC := 4
  wR := 2
  wD := 1
  matchLimit := 400
  peerAgeLimit := 12
  backoff := 10
  proposalInterval := 10
  replyTime := 250
  holdTime := 500
  acceptanceMargin := 50
  partnerTimeout := 6
  joinLimit := 200
  nodeNumber := 0
  sharing := false

/-- The holding values of R167. The rule names N, the gate code, the tolerance code, the series count, the bit
rate code and the holdoff, and keeps the rest detector dormant. The other values of this record are those of the
default profile: nothing reads them before the profile is in force (DEDUCED, safe, log entry 12). -/
def Config.holdingProfile : Profile :=
  { Config.defaultProfile with
    calibration := 65535
    gateCode := 6
    toleranceCode := 3
    series := 1
    startActivity := .dormant
    bitRateCode := 1
    holdoff := 20 }

/-- FREE VALUE (log entry 9). The bytes of the retained contents in the order in which the retention check value
passes them through the check register. R197: "Its order of bytes is internal to the node and is not visible at
any pin." No body: a claim that uses it holds for every order. -/
opaque Config.retentionBytes : Retained → List Byte

/-- FREE VALUE (log entry 8). What stands in the retention domain after the supply has fallen below the retention
limit (R187: the domain's contents are lost). No body; applied to the model's own counter `State.free`, so two
losses need not leave the same contents. -/
opaque Config.lostDomain : Nat → Domain

end Sys2Proof
end

