-- ==== Sys2Proof/Machine/Arith.lean ====
section
/-! DEFINITION. The manual's three roundings (00_scope.md, Conventions), its saturation and clamp, the byte
order of multi-byte fields (R194), and the frame check register (R197). -/

namespace Sys2Proof.Machine

/-- Rounded half up, for natural numbers: to the nearest integer, exact halves upward. -/
def roundHalfUp (n d : Nat) : Nat := (2 * n + d) / (2 * d)

/-- Rounded half up, for a signed dividend and a positive divisor: the floor of n/d + 1/2. -/
def roundHalfUpInt (n : Int) (d : Nat) : Int := (2 * n + d) / (2 * d)

/-- Rounded half away from zero: −2.5 becomes −3. -/
def roundHalfAway (n : Int) (d : Nat) : Int :=
  if 0 ≤ n then (roundHalfUp n.natAbs d : Int) else -(roundHalfUp n.natAbs d : Int)

/-- The nearest integer at or above n/d. -/
def divRoundUp (n d : Nat) : Nat := (n + d - 1) / d

/-- Clamped to a range: the nearer end when outside it. -/
def clamp (lo hi x : Int) : Int := if x < lo then lo else if hi < x then hi else x

/-- A field of two bytes, most significant first (R194). -/
def be16 (n : Nat) : List Byte := [BitVec.ofNat 8 (n / 256), BitVec.ofNat 8 n]

/-- A field of three bytes, most significant first (R194). -/
def be24 (n : Nat) : List Byte := [BitVec.ofNat 8 (n / 65536), BitVec.ofNat 8 (n / 256), BitVec.ofNat 8 n]

/-- A field of one byte. -/
def byteOf (n : Nat) : Byte := BitVec.ofNat 8 n

/-- A signed byte, two's complement (R194). -/
def signedByte (t : Int) : Byte := BitVec.ofInt 8 t

/-- The unsigned byte at a place; past the end it reads 0, which no caller relies on: lengths are judged first. -/
def u8 (b : List Byte) (i : Nat) : Nat := (b.getD i 0).toNat

/-- The two-byte field at a place. -/
def u16 (b : List Byte) (i : Nat) : Nat := u8 b i * 256 + u8 b (i + 1)

/-- The three-byte field at a place. -/
def u24 (b : List Byte) (i : Nat) : Nat := u8 b i * 65536 + u8 b (i + 1) * 256 + u8 b (i + 2)

/-- The signed byte at a place. -/
def s8 (b : List Byte) (i : Nat) : Int := (b.getD i 0).toInt

/-- The bits of a byte, most significant first (R80, R197). -/
def byteBits (b : Byte) : List Bool :=
  [b.getMsbD 0, b.getMsbD 1, b.getMsbD 2, b.getMsbD 3, b.getMsbD 4, b.getMsbD 5, b.getMsbD 6, b.getMsbD 7]

/-- The bits of a run of bytes, in order. -/
def bytesBits : List Byte → List Bool
  | [] => []
  | b :: bs => byteBits b ++ bytesBits bs

/-- The byte of eight bits, most significant first. -/
def bitsByte (l : List Bool) : Byte :=
  BitVec.ofNat 8 (l.foldl (fun n b => 2 * n + b.toNat) 0)

/-- Whole bytes out of bits, `n` of them. -/
def bitsBytes : Nat → List Bool → List Byte
  | 0, _ => []
  | n + 1, l => bitsByte (l.take 8) :: bitsBytes n (l.drop 8)

/-- One bit into the frame check register (R197). -/
def crcBit (r : Word16) (b : Bool) : Word16 :=
  if b != r.msb then (r <<< 1) ^^^ 0x8005#16 else r <<< 1

/-- Bits into the register, in order. -/
def crcBits (r : Word16) (l : List Bool) : Word16 := l.foldl crcBit r

/-- Bytes into the register, in order, each most significant bit first (R197). -/
def crcBytes (r : Word16) (l : List Byte) : Word16 := l.foldl (fun r b => crcBits r (byteBits b)) r

/-- The register preset to FFFFH and passed over the bytes (R197). -/
def crc (l : List Byte) : Word16 := crcBytes 0xFFFF#16 l

/-- The two check bytes a transmitter appends, high byte first (R197). -/
def checkBytes (l : List Byte) : List Byte := [(crc l).extractLsb' 8 8, (crc l).extractLsb' 0 8]

end Sys2Proof.Machine
end

