-- ==== Sys2Proof/Machine/Record.lean ====
section
/-! DEFINITION. The commissioning record: its layout (R198), the tests it is judged by (R168, R169), and the record
of a profile, which a sharer sends (R173) and from which the default's check value comes (R169). -/

namespace Sys2Proof.Machine

/-- A valid record: the profile in it and its profile check value (R168). -/
structure LoadedRecord where
  profile : Profile
  check : Word16
deriving DecidableEq, Repr

/-- Cell voltages strictly ascending and SOC values non-decreasing (R56, R169). -/
def ocvOrdered : List OcvPoint → Bool
  | [] => true
  | [_] => true
  | p :: q :: rest => decide (p.mv < q.mv) && decide (p.soc ≤ q.soc) && ocvOrdered (q :: rest)

/-- A temperature limit lies in −40…+125 °C. -/
def temperatureOk (t : Int) : Bool := decide (-40 ≤ t ∧ t ≤ 125)

/-- The ranges of the front end's, the OCV table's and the rest detector's values (R169). -/
def measurementRanges (p : Profile) : Bool :=
  decide (256 ≤ p.calibration ∧ p.calibration ≤ 65535)
    && decide (p.gateCode ≤ 6) && decide (p.toleranceCode ≤ 3)
    && decide (p.chemistry ≤ 255) && decide (1 ≤ p.series ∧ p.series ≤ 255)
    && decide (2 ≤ p.ocv.length ∧ p.ocv.length ≤ 16)
    && p.ocv.all (fun q => decide (q.mv ≤ 65535 ∧ q.soc ≤ 1000)) && ocvOrdered p.ocv
    && decide (p.restThreshold ≤ 65535)
    && decide (1 ≤ p.restTime ∧ p.restTime ≤ 240) && decide (1 ≤ p.longRestTime ∧ p.longRestTime ≤ 72)
    && temperatureOk p.captureLow && temperatureOk p.captureHigh && decide (p.captureLow ≤ p.captureHigh)

/-- The ranges of the pulse engine's and the grade unit's values (R169). -/
def gradingRanges (p : Profile) : Bool :=
  decide (100 ≤ p.pulseWidth ∧ p.pulseWidth ≤ 2000) && decide (1 ≤ p.pulseInterval ∧ p.pulseInterval ≤ 168)
    && temperatureOk p.pulseLow && temperatureOk p.pulseHigh && decide (p.pulseLow ≤ p.pulseHigh)
    && decide (1 ≤ p.minimumStep ∧ p.minimumStep ≤ 65535) && decide (p.alpha ≤ 30)
    && decide (50 ≤ p.minimumWindow ∧ p.minimumWindow ≤ 900)
    && decide (1 ≤ p.smoothing ∧ p.smoothing ≤ 16)
    && decide (1 ≤ p.ratedCapacity ∧ p.ratedCapacity ≤ Config.max24)
    && decide (1 ≤ p.ratedResistance ∧ p.ratedResistance ≤ Config.max24)
    && decide (p.sA ≤ 1000 ∧ p.sB ≤ p.sA ∧ p.sC ≤ p.sB)
    && decide (p.rA ≤ p.rB ∧ p.rB ≤ p.rC ∧ p.rC ≤ 65535)
    && decide (p.dA ≤ p.dB ∧ p.dB ≤ p.dC ∧ p.dC ≤ 65535)

/-- The ranges of the link's, the peer table's, the bond engine's and the numbering's values (R169). -/
def pairingRanges (p : Profile) : Bool :=
  decide (p.bitRateCode ≤ 3) && decide (p.holdoff ≤ 255)
    && decide (1 ≤ p.announceInterval ∧ p.announceInterval ≤ 60)
    && decide (p.wC ≤ 15 ∧ p.wR ≤ 15 ∧ p.wD ≤ 15) && decide (p.matchLimit ≤ 65535)
    && decide (3 ≤ p.peerAgeLimit ∧ p.peerAgeLimit ≤ 60) && decide (1 ≤ p.backoff ∧ p.backoff ≤ 255)
    && decide (1 ≤ p.proposalInterval ∧ p.proposalInterval ≤ 60)
    && decide (50 ≤ p.replyTime ∧ p.replyTime ≤ 2000) && decide (50 ≤ p.holdTime ∧ p.holdTime ≤ 2000)
    && decide (p.acceptanceMargin ≤ 65535)
    && decide (2 ≤ p.partnerTimeout ∧ p.partnerTimeout ≤ 20)
    && decide (10 ≤ p.joinLimit ∧ p.joinLimit ≤ 2000) && decide (p.nodeNumber ≤ 239)

/-- Every profile value lies in its range and keeps its order: the sixth test of R168, by the table of R169. -/
def profileValid (p : Profile) : Bool := measurementRanges p && gradingRanges p && pairingRanges p

/-- One OCV entry: 4 bytes (R198). -/
def ocvBytes (q : OcvPoint) : List Byte := be16 q.mv ++ be16 q.soc

/-- The OCV entries from a place on (R198). -/
def ocvRead (b : List Byte) : Nat → Nat → List OcvPoint
  | 0, _ => []
  | n + 1, i => ⟨u16 b i, u16 b (i + 2)⟩ :: ocvRead b n (i + 4)

/-- Byte 5 of the record: gate code, tolerance code, bit rate code, start activity (R198). -/
def packedCodes (p : Profile) : Byte :=
  byteOf (p.gateCode * 32 + p.toleranceCode * 8 + p.bitRateCode * 2 + (if p.startActivity = .active then 1 else 0))

/-- Byte 6 of the record: LOAD polarity, sharing option, bit 5 zero, α (R198). -/
def packedOptions (p : Profile) : Byte :=
  byteOf ((if p.loadActiveLow then 128 else 0) + (if p.sharing then 64 else 0) + p.alpha)

/-- Bytes 0 to 31 of the record (R198). -/
def recordBytesLow (p : Profile) : List Byte :=
  [0x5A#8, 0x01#8, byteOf p.ocv.length] ++ be16 p.calibration ++ [packedCodes p, packedOptions p]
    ++ [byteOf p.chemistry, byteOf p.series] ++ be16 p.restThreshold
    ++ [byteOf p.restTime, byteOf p.longRestTime, signedByte p.captureLow, signedByte p.captureHigh]
    ++ [byteOf p.pulseInterval, signedByte p.pulseLow, signedByte p.pulseHigh] ++ be16 p.minimumStep
    ++ be24 (p.pulseWidth * 4096 + p.joinLimit) ++ be16 p.minimumWindow
    ++ [byteOf (p.wD * 16 + (p.smoothing - 1))] ++ be24 p.ratedCapacity ++ be24 p.ratedResistance

/-- Bytes 32 to 64 of the record (R198). -/
def recordBytesHigh (p : Profile) : List Byte :=
  be16 p.sA ++ be16 p.sB ++ be16 p.sC ++ be16 p.rA ++ be16 p.rB ++ be16 p.rC
    ++ be16 p.dA ++ be16 p.dB ++ be16 p.dC
    ++ [byteOf p.holdoff, byteOf p.announceInterval, byteOf (p.wC * 16 + p.wR)] ++ be16 p.matchLimit
    ++ [byteOf p.peerAgeLimit, byteOf p.backoff, byteOf p.proposalInterval]
    ++ be24 (p.replyTime * 4096 + p.holdTime) ++ be16 p.acceptanceMargin
    ++ [byteOf p.partnerTimeout, byteOf p.nodeNumber]

/-- The record of a profile without its two check bytes (R198). -/
def recordBody (p : Profile) : List Byte :=
  recordBytesLow p ++ recordBytesHigh p ++ p.ocv.flatMap ocvBytes

/-- The record of a profile: the bytes a valid record with these values has (R198; every bit of a valid record is
one of its values, a fixed byte, a zero bit or the check). -/
def encodeRecord (p : Profile) : List Byte := recordBody p ++ checkBytes (recordBody p)

/-- The profile the bytes of a record hold (R198). -/
def readProfile (b : List Byte) : Profile where
  calibration := u16 b 3
  gateCode := u8 b 5 / 32
  toleranceCode := u8 b 5 / 8 % 4
  chemistry := u8 b 7
  series := u8 b 8
  ocv := ocvRead b (u8 b 2) 65
  restThreshold := u16 b 9
  restTime := u8 b 11
  longRestTime := u8 b 12
  captureLow := s8 b 13
  captureHigh := s8 b 14
  startActivity := if u8 b 5 % 2 = 1 then .active else .dormant
  pulseWidth := u24 b 20 / 4096
  pulseInterval := u8 b 15
  pulseLow := s8 b 16
  pulseHigh := s8 b 17
  minimumStep := u16 b 18
  alpha := u8 b 6 % 32
  loadActiveLow := decide (128 ≤ u8 b 6)
  minimumWindow := u16 b 23
  smoothing := u8 b 25 % 16 + 1
  ratedCapacity := u24 b 26
  ratedResistance := u24 b 29
  sA := u16 b 32
  sB := u16 b 34
  sC := u16 b 36
  rA := u16 b 38
  rB := u16 b 40
  rC := u16 b 42
  dA := u16 b 44
  dB := u16 b 46
  dC := u16 b 48
  bitRateCode := u8 b 5 / 2 % 4
  holdoff := u8 b 50
  announceInterval := u8 b 51
  wC := u8 b 52 / 16
  wR := u8 b 52 % 16
  wD := u8 b 25 / 16
  matchLimit := u16 b 53
  peerAgeLimit := u8 b 55
  backoff := u8 b 56
  proposalInterval := u8 b 57
  replyTime := u24 b 58 / 4096
  holdTime := u24 b 58 % 4096
  acceptanceMargin := u16 b 61
  partnerTimeout := u8 b 63
  joinLimit := u24 b 20 % 4096
  nodeNumber := u8 b 64
  sharing := decide (64 ≤ u8 b 6 % 128)

/-- The length of a record with that many breakpoints (R168, R198). -/
def recordLength (breakpoints : Nat) : Nat := 67 + 4 * breakpoints

/-- The six tests of R168, in order; none at the first that fails. The bytes after the record are disregarded. -/
def parseRecord (bytes : List Byte) : Option LoadedRecord :=
  if u8 bytes 0 ≠ 0x5A then none
  else if u8 bytes 1 ≠ 1 then none
  else if ¬ (2 ≤ u8 bytes 2 ∧ u8 bytes 2 ≤ 16) then none
  else
    let n := recordLength (u8 bytes 2)
    if bytes.length < n then none
    else if crc (bytes.take n) ≠ 0#16 then none
    else if u8 bytes 6 / 32 % 2 ≠ 0 then none
    else
      let p := readProfile bytes
      if profileValid p then some ⟨p, BitVec.ofNat 16 (u16 bytes (n - 2))⟩ else none

/-- The built-in default as a valid record (R169): its profile, and its check bytes as its check value. -/
def defaultRecord : LoadedRecord :=
  ⟨Config.defaultProfile, crc (recordBody Config.defaultProfile)⟩

/-- A profile loaded over the bus has its node number taken as 0 and its sharing option as clear (R172). -/
def asBusProfile (p : Profile) : Profile := { p with nodeNumber := 0, sharing := false }

end Sys2Proof.Machine
end

