-- ==== Sys2Proof/Machine/State.lean ====
section
/-! DEFINITION. The state of the node: one record per block of the manual, the retention domain, the pins, and the
queue of waiting commands. Each item cites the rule or the state table that names it. -/

namespace Sys2Proof.Machine

/-- Nothing stops the block: the manual gives every command an effect, or no effect, and names no event that
halts the node (FAILED, CONFLICT and NO NUMBER are states it goes on in, R170, R180, R181). The type is empty,
which is safe: no claim can rest on a fault. -/
inductive Fault where
deriving DecidableEq, Repr

/-- The one refusal is the host's: an arm of `exec` with no meaning yet. No arm of this model raises it (safe). -/
inductive Refusal where
  /-- Raised by an arm of `exec` that has no meaning yet; safe, since nothing is then claimed of the command. -/
  | notModelled (mnemonic : String)
deriving DecidableEq, Repr

/-- A voltage sample with its cell voltage beside it (R9, R10). -/
structure VoltageSample where
  mv : Nat
  cell : Nat
deriving DecidableEq, Repr, Inhabited

/-- The sample record of a closed window (R12). -/
structure SampleRecord where
  seconds : Nat
  chg : Nat
  dsg : Nat
  current : Int
  voltage : Nat
  cell : Nat
  faulted : Bool
deriving DecidableEq, Repr, Inhabited

/-- The measurement front end, but for the residue and the charge counter, which are retained. -/
structure FrontEnd where
  /-- The gate window timer: the length in ms of the open window, none when no window is open (R6, R16). -/
  window : Option Nat
  chg : Nat
  dsg : Nat
  lastSample : Option SampleRecord
  lastVoltage : Option VoltageSample
  lastTemperature : Option Int
  integrityFlag : Bool
  newFault : Bool
deriving DecidableEq, Repr, Inhabited

/-- The long-rest reference (R29). -/
structure LongRestReference where
  ocv : Nat
  soc : Nat
  time : Nat
  temperature : Int
deriving DecidableEq, Repr, Inhabited

/-- The rest detector, but for the activity, the list and the pair last offered, which are retained. A timer is
`none` when stopped, else the seconds counter value at which it expires (R31). -/
structure RestDetector where
  state : RestState
  restTimer : Option Nat
  longTimer : Option Nat
  reference : Option LongRestReference
  /-- Capture times the grade unit has asked to have removed and whose REMOVAL_REQUEST has not been taken yet,
  oldest first (R35: "an event of its own, taken after the event of the offer that caused it"). -/
  removals : List Nat
deriving DecidableEq, Repr, Inhabited

/-- The pre-pulse sample (R40). -/
structure PreSample where
  v0 : Nat
  i0 : Int
deriving DecidableEq, Repr, Inhabited

/-- The pulse-end sample (R42). -/
structure EndSample where
  v1 : Nat
  i1 : Int
  temperature : Int
deriving DecidableEq, Repr, Inhabited

/-- The pulse engine, but for the last valid pulse time, which is retained. -/
structure PulseEngine where
  state : PulseState
  windows : Nat
  spoiled : Bool
  pre : Option PreSample
  post : Option EndSample
deriving DecidableEq, Repr, Inhabited

/-- A frame as its builder made it, without the check, which is formed at each attempt (R95, R83). An ANNOUNCE in
the queue has an empty payload: its content is taken at each attempt (R111). -/
structure Frame where
  dst : Byte
  src : Byte
  kind : Byte
  payload : List Byte
deriving DecidableEq, Repr, Inhabited

/-- What the bits read back have shown of an attempt (R90, R91, R92). -/
inductive AttemptOutcome where
  | lost
  | lineFault
  | complete
deriving DecidableEq, Repr, Inhabited

/-- An attempt in SENDING: the frame with the content taken, the bits it puts on the line, how many of them have
been sent and read back, and what the line has shown. -/
structure Attempt where
  frame : Frame
  bits : List Bool
  sent : Nat
  outcome : Option AttemptOutcome
deriving DecidableEq, Repr, Inhabited

/-- The receiver with its run counts and the frame under assembly (R77, R81, R84). -/
structure Receiver where
  state : ReceiverState
  recessiveRun : Nat
  dominantRun : Nat
  /-- In HUNT: the latest dominant bit came out of an idle line and only recessive bits, at most seven, have
  followed it, so it may be the first bit of an opening delimiter (R84). -/
  leading : Bool
  /-- The bits taken as content since the opening delimiter, in order (R81). In SKIPPING it stays empty. -/
  assembly : List Bool
  /-- The stuffing run count and the value of its bits (R81). -/
  stuffRun : Nat
  stuffBit : Bool
  /-- The run began with a bit removed as a stuff bit (R81). -/
  runStuffed : Bool
deriving DecidableEq, Repr, Inhabited

/-- A frame whose closing delimiter the receiver has recognised and whose FRAME_RECEIVED has not been taken yet:
its content bits, and whether the node's own transmitter completed it at the same bit (R86). -/
structure ClosedFrame where
  content : List Bool
  own : Bool
deriving DecidableEq, Repr, Inhabited

/-- The cohort link. -/
structure Link where
  receiver : Receiver
  /-- Frames closed and not yet judged (model's own: the FRAME_RECEIVED step is a command of its own). -/
  closed : List ClosedFrame
  /-- The dominant run has reached 64 and the BUS_RESET step has not been taken (model's own). -/
  resetDue : Bool
  /-- The dominant run has reached 1 s and the STUCK_DOMINANT_LINE step has not been taken (model's own). -/
  stuckDue : Bool
  transmitter : TransmitterState
  attempt : Option Attempt
  /-- The holdoff timer: running for that many tenths of a ms, or expired (none) (R93). -/
  holdoff : Option Nat
  /-- Receive FIFO, oldest first: whole contents, check included (R87). -/
  fifo : List (List Byte)
  /-- Transmit queue, head first (R95). -/
  queue : List Frame
  lineFault : Bool
  overrunFlag : Bool
  newOverrun : Bool
  mode : LinkMode
deriving DecidableEq, Repr, Inhabited

/-- The frame processor, but for the campaign number, which is retained. The announce timer is none when stopped,
else the length of its present run in ms (R110). -/
structure FrameProcessor where
  inHand : Option (List Byte)
  announceTimer : Option Nat
deriving DecidableEq, Repr, Inhabited

/-- A decline mark (R132). -/
structure DeclineMark where
  reason : DeclineReason
  expiry : Nat
deriving DecidableEq, Repr, Inhabited

/-- A peer entry (R122). It is pinned while its number equals the table's pin number. -/
structure PeerEntry where
  number : Nat
  chemistry : Nat
  series : Nat
  gradeClass : Option GradeClass
  capacity : Option Nat
  r25c : Option Nat
  sd : Option Nat
  bondState : BondState
  voltage : Option Nat
  epoch : Nat
  frozen : Bool
  score : Option Nat
  lastHeard : Nat
  mark : Option DeclineMark
deriving DecidableEq, Repr, Inhabited

/-- The peer table: its entries in table order, and the pin number (R122, R128). -/
structure PeerTable where
  entries : List PeerEntry
  pin : Option Nat
deriving DecidableEq, Repr, Inhabited

/-- The partner report (R152). -/
structure PartnerReport where
  voltage : Option Nat
  time : Nat
deriving DecidableEq, Repr, Inhabited

/-- The bond engine, but for the bond state, the engaged number and the freeze flag, which are retained. A timer is
none when stopped, else the length of its present run: ms for proposal, reply and hold, s for the partner timer. -/
structure BondEngine where
  proposalTimer : Option Nat
  replyTimer : Option Nat
  holdTimer : Option Nat
  partnerTimer : Option Nat
  inconsistency : Nat
  bondClass : Option GradeClass
  report : Option PartnerReport
  /-- PAIR-EN, the engine's output pin: active or inactive (R157). -/
  pairEn : Bool
  /-- The transmit queue took the PROPOSE of the proposal under way, so that there is one to withdraw; a PROPOSE dropped by
  a full queue is not (R143; model's own, log entry 16). -/
  proposeTaken : Bool
deriving DecidableEq, Repr, Inhabited

/-- The assembly buffer when bound (R172). -/
structure AssemblyBuffer where
  source : Nat
  count : Nat
  length : Nat
  segments : List (Nat × List Byte)
  /-- A segment has been stored since the previous expiry of the request timer (R172). -/
  stored : Bool
deriving DecidableEq, Repr, Inhabited

/-- The commissioning unit, but for its retained items. -/
structure Commissioning where
  state : CommissioningState
  numbering : Option NumberingState
  /-- The method chosen at the entry to NUMBERING, or that of the number held after a warm return (R175, R182). -/
  method : Option NumberMethod
  /-- The number claimed in CLAIMING (R176, R178). -/
  claim : Option Nat
  /-- The node number the unit holds (R176). -/
  held : Option Nat
  highest : Nat
  quietTimer : Option Nat
  requestTimer : Option Nat
  buffer : Option AssemblyBuffer
  /-- Share broadcast: the next segment index, or idle (none) (R173). -/
  share : Option Nat
  /-- The bytes sent on SDO by the memory read of the latest LOADING, empty when no read was made (R168). -/
  memoryCommand : List Byte
deriving DecidableEq, Repr, Inhabited

/-- The supply monitor, but for the retention domain, which stands in `State.dom`. -/
structure Supply where
  state : SupplyState
  kind : StartKind
deriving DecidableEq, Repr, Inhabited

/-- Pin levels: the two inputs whose level is watched between their events, and the driven outputs. PAIR-EN stands
in the bond engine, which owns it. -/
structure Pins where
  /-- RESET is held active (R185). -/
  reset : Bool
  /-- CHAIN-IN is active (R177). -/
  chainIn : Bool
  /-- CHAIN-OUT is active (R176 to R182). -/
  chainOut : Bool
  /-- LOAD (R41). -/
  load : LoadPin
  /-- ALERT is asserted (R192). -/
  alert : Bool
  /-- The node drives BUS dominant at the bit it is about to send (R76). -/
  busDominant : Bool
  /-- SCS is active: never between two commands, since the memory read is made within LOADING (R168). -/
  scs : Bool
deriving DecidableEq, Repr, Inhabited

/-- The node. -/
structure State where
  /-- Commands waiting, first in, first out (the block's input). -/
  pending : List Instr
  supply : Supply
  dom : Domain
  fe : FrontEnd
  rest : RestDetector
  pulse : PulseEngine
  link : Link
  fp : FrameProcessor
  table : PeerTable
  bond : BondEngine
  comm : Commissioning
  pins : Pins
  /-- The model's own counter, which a free value reads and advances (log entry 8). -/
  free : Nat
deriving DecidableEq, Repr

/-- The grade record as a cold start leaves it (R74). -/
def emptyGrade : GradeRecord :=
  ⟨none, 0, none, none, none, none, none, none, none, none, 0⟩

/-- Every retained item at its cold start value (R17, R37, R51, R74, R117, R164, R182, R190). The activity is
dormant until a profile comes into force and gives the start activity (R167, R37). -/
def coldRetained : Retained where
  residue := 0
  charge := 0
  points := []
  offered := none
  activity := .dormant
  lastPulse := none
  grade := emptyGrade
  bondState := .unready
  engaged := none
  freeze := false
  profile := none
  source := none
  inForce := false
  profileCheck := none
  number := none
  campaign := none
  coldMarker := true

/-- The front end with no window open and nothing sampled (R16, R17). -/
def stoppedFrontEnd : FrontEnd := ⟨none, 0, 0, none, none, none, false, false⟩

/-- The rest detector at rest: MOVING, both timers stopped, no reference (R37). -/
def stoppedRest : RestDetector := ⟨.moving, none, none, none, []⟩

/-- The pulse engine in IDLE (R51). -/
def idlePulse : PulseEngine := ⟨.idle, 0, false, none, none⟩

/-- The receiver in a state with both run counts at 0 and nothing under assembly (R76, R84, R100). -/
def freshReceiver (st : ReceiverState) : Receiver := ⟨st, 0, 0, false, [], 0, false, false⟩

/-- The link stopped, as leaving RUN leaves it (R100). -/
def stoppedLink : Link :=
  ⟨freshReceiver .off, [], false, false, .idle, none, none, [], [], false, false, false, .listen⟩

/-- The frame processor with nothing in hand and the announce timer stopped (R102, R110). -/
def stoppedFrames : FrameProcessor := ⟨none, none⟩

/-- The bond engine's items that are not retained, as every start leaves them (R164). -/
def stoppedBond : BondEngine := ⟨none, none, none, none, 0, none, none, false, false⟩

/-- The commissioning unit's items that are not retained, before LOADING. -/
def stoppedCommissioning : Commissioning := ⟨.loading, none, none, none, none, 0, none, none, none, none, []⟩

/-- Every output silent: CHAIN-OUT inactive, LOAD undriven, ALERT and BUS released, SCS inactive (R188, R192). -/
def silentPins (reset chainIn : Bool) : Pins := ⟨reset, chainIn, false, .undriven, false, false, false⟩

/-- The machine right after power-up: the monitor is OFF with the pending start kind COLD (R184), every output is
silent, nothing runs, nothing waits. The retention domain has no stated contents before the first cold start
writes it, and the two watched inputs no stated level: the values below are DESIGN CHOICE (log entry 7, unsafe). -/
def State.reset : State where
  pending := []
  supply := ⟨.off, .cold⟩
  dom := ⟨{ coldRetained with coldMarker := false }, 0, 0, 0#16, 0#16, 0#16⟩
  fe := stoppedFrontEnd
  rest := stoppedRest
  pulse := idlePulse
  link := stoppedLink
  fp := stoppedFrames
  table := ⟨[], none⟩
  bond := stoppedBond
  comm := stoppedCommissioning
  pins := silentPins false false
  free := 0

/-- The retained items (R187). -/
def State.ret (s : State) : Retained := s.dom.ret

/-- The seconds counter (R189). -/
def State.seconds (s : State) : Nat := s.dom.seconds

/-- The Grade Record (R53). -/
def State.grade (s : State) : GradeRecord := s.dom.ret.grade

def State.setPending (s : State) (q : List Instr) : State := { s with pending := q }
def State.setSupply (s : State) (x : Supply) : State := { s with supply := x }
def State.setDom (s : State) (x : Domain) : State := { s with dom := x }
def State.setRet (s : State) (x : Retained) : State := { s with dom := { s.dom with ret := x } }
def State.setFe (s : State) (x : FrontEnd) : State := { s with fe := x }
def State.setRest (s : State) (x : RestDetector) : State := { s with rest := x }
def State.setPulse (s : State) (x : PulseEngine) : State := { s with pulse := x }
def State.setLink (s : State) (x : Link) : State := { s with link := x }
def State.setFp (s : State) (x : FrameProcessor) : State := { s with fp := x }
def State.setTable (s : State) (x : PeerTable) : State := { s with table := x }
def State.setBond (s : State) (x : BondEngine) : State := { s with bond := x }
def State.setComm (s : State) (x : Commissioning) : State := { s with comm := x }
def State.setPins (s : State) (x : Pins) : State := { s with pins := x }

end Sys2Proof.Machine
end

