-- ==== Sys2Proof/Machine/Operands.lean ====
section
/-! DEFINITION. The operand forms: the codes carried in frames (R194), the form each kind must have (R103, R106),
the fields of a received frame, and the conversion of the analogue readings (R9, R11). -/

namespace Sys2Proof.Machine

/-! Kind codes (R194). -/

def kindEnum : Byte := 0x01#8
def kindAnnounce : Byte := 0x02#8
def kindPropose : Byte := 0x03#8
def kindAccept : Byte := 0x04#8
def kindDecline : Byte := 0x05#8
def kindConfirm : Byte := 0x06#8
def kindRelease : Byte := 0x07#8
def kindQuery : Byte := 0x08#8
def kindGrade : Byte := 0x09#8
def kindCampaign : Byte := 0x0A#8
def kindProfile : Byte := 0x0B#8

/-- The broadcast destination. -/
def broadcast : Byte := 0xFF#8

/-- The code of a class, 00H for an absent one (R194, R195). -/
def classCode (c : Option GradeClass) : Byte :=
  match c with
  | none => 0x00#8
  | some .a => 0x01#8
  | some .b => 0x02#8
  | some .c => 0x03#8
  | some .x => 0x04#8

/-- The class a code names; the codes above 04H fail the form test before this is read. -/
def classOfCode (n : Nat) : Option GradeClass :=
  match n with
  | 1 => some .a
  | 2 => some .b
  | 3 => some .c
  | 4 => some .x
  | _ => none

/-- The code of a bond state (R194). -/
def bondCode (b : BondState) : Byte :=
  match b with
  | .unready => 0x00#8
  | .free => 0x01#8
  | .proposing => 0x02#8
  | .held => 0x03#8
  | .bonded => 0x04#8
  | .bondedSilent => 0x05#8
  | .rejected => 0x06#8

/-- The bond state a code names; the codes above 06H fail the form test. -/
def bondOfCode (n : Nat) : Option BondState :=
  match n with
  | 0 => some .unready
  | 1 => some .free
  | 2 => some .proposing
  | 3 => some .held
  | 4 => some .bonded
  | 5 => some .bondedSilent
  | 6 => some .rejected
  | _ => none

/-- The bond states with an engaged number (R139). -/
def engagedState (b : BondState) : Bool :=
  match b with
  | .proposing => true
  | .held => true
  | .bonded => true
  | .bondedSilent => true
  | .unready => false
  | .free => false
  | .rejected => false

/-- The ENUM method codes (R194). -/
def methodCode (m : NumberMethod) : Byte :=
  match m with
  | .fixed => 0x01#8
  | .chained => 0x02#8
  | .retained => 0x03#8

/-- The DECLINE reason codes; SILENT has none and is never put in a frame (R194, R132). -/
def declineCode (r : DeclineReason) : Byte :=
  match r with
  | .bonded => 0x01#8
  | .busy => 0x02#8
  | .rank => 0x03#8
  | .notReady => 0x04#8
  | .frozen => 0x05#8
  | .ineligible => 0x06#8
  | .unknown => 0x07#8
  | .stale => 0x08#8
  | .silent => 0x00#8

/-- The reason a DECLINE code names (R194). -/
def declineOfCode (n : Nat) : Option DeclineReason :=
  match n with
  | 1 => some .bonded
  | 2 => some .busy
  | 3 => some .rank
  | 4 => some .notReady
  | 5 => some .frozen
  | 6 => some .ineligible
  | 7 => some .unknown
  | 8 => some .stale
  | _ => none

/-- The RELEASE reason codes (R194). -/
def releaseCode (r : ReleaseReason) : Byte :=
  match r with
  | .late => 0x01#8
  | .regrade => 0x02#8
  | .classChange => 0x03#8
  | .campaign => 0x04#8
  | .inconsistent => 0x05#8

/-- The reason a RELEASE code names (R194). -/
def releaseOfCode (n : Nat) : Option ReleaseReason :=
  match n with
  | 1 => some .late
  | 2 => some .regrade
  | 3 => some .classChange
  | 4 => some .campaign
  | 5 => some .inconsistent
  | _ => none

/-- The action a CAMPAIGN code names, none for an unknown one (R118, R119). -/
def actionOfCode (n : Nat) : Option CampaignAction :=
  match n with
  | 1 => some .start
  | 2 => some .freeze
  | 3 => some .regrade
  | 4 => some .releaseAll
  | _ => none

/-- The parts of a content: destination, source, kind, payload; the two check bytes are left off (R103, R194). -/
def frameOf (content : List Byte) : Frame :=
  ⟨content.getD 0 0, content.getD 1 0, content.getD 2 0, (content.drop 3).take (content.length - 5)⟩

/-- A kind code of the table of R194. -/
def knownKind (k : Byte) : Bool := decide (1 ≤ k.toNat ∧ k.toNat ≤ 11)

/-- A node number in a source or destination byte. -/
def nodeByte (b : Byte) : Bool := decide (1 ≤ b.toNat ∧ b.toNat ≤ 239)

/-- The destination of an addressed frame: 1…254 (R103). -/
def addressedByte (b : Byte) : Bool := decide (1 ≤ b.toNat ∧ b.toNat ≤ 254)

/-- The coded fields of an ANNOUNCE: series count, class, bond state, and the partner as R106 requires. -/
def announceFieldsOk (p : List Byte) : Bool :=
  decide (1 ≤ u8 p 1) && decide (u8 p 2 ≤ 4)
    && (match bondOfCode (u8 p 4) with
        | some b => if engagedState b then nodeByte (p.getD 5 0) else decide (u8 p 5 = 255)
        | none => false)

/-- The form a frame of its kind must have: destination, source, payload length, coded fields (R103). The source,
length and index of a PROFILE are judged by the commissioning unit. -/
def wellFormed (f : Frame) : Bool :=
  match f.kind.toNat with
  | 1 => f.dst == broadcast && decide (f.src.toNat ≤ 239) && decide (f.payload.length = 2)
      && nodeByte (f.payload.getD 0 0) && decide (1 ≤ u8 f.payload 1 ∧ u8 f.payload 1 ≤ 3)
  | 2 => f.dst == broadcast && nodeByte f.src && decide (f.payload.length = 20) && announceFieldsOk f.payload
  | 3 => addressedByte f.dst && nodeByte f.src && decide (f.payload.length = 3)
  | 4 => addressedByte f.dst && nodeByte f.src && decide (f.payload.length = 1)
  | 5 => addressedByte f.dst && nodeByte f.src && decide (f.payload.length = 1)
      && (declineOfCode (u8 f.payload 0)).isSome
  | 6 => addressedByte f.dst && nodeByte f.src && decide (f.payload.length = 1)
  | 7 => addressedByte f.dst && nodeByte f.src && decide (f.payload.length = 1)
      && (releaseOfCode (u8 f.payload 0)).isSome
  | 8 => addressedByte f.dst && addressedByte f.src && decide (f.payload.length = 0)
  | 9 => addressedByte f.dst && nodeByte f.src && decide (f.payload.length = 25)
  | 10 => decide (1 ≤ f.dst.toNat) && decide (240 ≤ f.src.toNat ∧ f.src.toNat ≤ 254)
      && decide (f.payload.length = 2)
  | 11 => f.dst == broadcast
  | _ => false

/-- The fields of an ANNOUNCE that a receiving node uses (R106, R122, R195). -/
structure AnnounceFields where
  source : Nat
  chemistry : Nat
  series : Nat
  gradeClass : Option GradeClass
  capacity : Option Nat
  r25c : Option Nat
  sd : Option Nat
  frozen : Bool
  coldMarker : Bool
  bondState : BondState
  partner : Option Nat
  voltage : Option Nat
  epoch : Nat
deriving DecidableEq, Repr

/-- Read a well-formed ANNOUNCE. A field whose presence flag is clear is absent whatever its bytes hold; a voltage of
FFFFH is absent; a partner of FFH is absent (R195). A C of 0 under a set capacity flag is taken as sent, though R122 gives an
entry's C as 1 or more: DESIGN CHOICE, log entry 34. -/
def readAnnounce (f : Frame) : AnnounceFields :=
  let p := f.payload
  let flags := p.getD 3 0
  { source := f.src.toNat
    chemistry := u8 p 0
    series := u8 p 1
    gradeClass := classOfCode (u8 p 2)
    capacity := if flags.getLsbD 7 then some (u24 p 8) else none
    r25c := if flags.getLsbD 6 then some (u24 p 11) else none
    sd := if flags.getLsbD 5 then some (u16 p 14) else none
    frozen := flags.getLsbD 2
    coldMarker := flags.getLsbD 1
    bondState := (bondOfCode (u8 p 4)).getD .unready
    partner := if u8 p 5 = 255 then none else some (u8 p 5)
    voltage := if u16 p 16 = 65535 then none else some (u16 p 16)
    epoch := u8 p 19 }

/-- A PROFILE segment: a PROFILE whose segment count is present and not 00H (R196). -/
def isSegment (f : Frame) : Bool := f.kind == kindProfile && decide (2 ≤ f.payload.length) && f.payload.getD 1 0 != 0

/-- A PROFILE request: its segment count is 00H (R196). -/
def isRequest (f : Frame) : Bool := f.kind == kindProfile && decide (2 ≤ f.payload.length) && f.payload.getD 1 0 == 0

/-- VSENSE in whole mV, clamped to 0…65,535 (R9). -/
def readVoltage (vsense : Int) : Nat := (clamp 0 65535 vsense).toNat

/-- TSENSE, given in thousandths of a °C, in whole °C rounded half up and clamped to −40…+125 (R11). -/
def readTemperature (tsense : Int) : Int := clamp (-40) 125 (roundHalfUpInt tsense 1000)

end Sys2Proof.Machine
end

