-- ==== Sys2Proof/Machine/Peers.lean ====
section
/-! DEFINITION. The peer table's shared operations: score (R126), table order (R128), eligibility (R129), the
candidate order (R130), admission (R123 to R125), aging (R131), decline marks (R132, R133) and the pin (R134). -/

namespace Sys2Proof.Machine

/-- The profile in force, or the holding values until one is (R167). -/
def prof (s : State) : Profile :=
  if s.ret.inForce then s.ret.profile.getD Config.holdingProfile else Config.holdingProfile

/-- |a − b|. -/
def absDiff (a b : Nat) : Nat := (a - b) + (b - a)

/-- A difference in ‰ of the larger value, truncated, and 0 when both are 0 (R126). -/
def relativeDiff (a b : Nat) : Nat := absDiff a b * 1000 / max a b

/-- The match score of an own record and a peer's capacity, resistance and self-discharge (R126). -/
def scoreOf (p : Profile) (own : GradeRecord) (capacity r25c sd : Option Nat) : Option Nat :=
  match own.capacity, own.r25c, capacity, r25c with
  | some c1, some r1, some c2, some r2 =>
    let dD := match own.sd, sd with
      | some d1, some d2 => absDiff d1 d2
      | _, _ => 0
    some (min Config.max16 (p.wC * relativeDiff c1 c2 + p.wR * relativeDiff r1 r2 + p.wD * dD))
  | _, _, _, _ => none

/-- An entry's score against the own record (R126, R127). -/
def scored (p : Profile) (own : GradeRecord) (e : PeerEntry) : PeerEntry :=
  { e with score := scoreOf p own e.capacity e.r25c e.sd }

/-- `a` stands ahead of `b` in the table order: scored before unscored, by score, then by number (R128). -/
def standsAhead (a b : PeerEntry) : Bool :=
  match a.score, b.score with
  | some x, some y => decide (x < y) || (x == y && decide (a.number < b.number))
  | some _, none => true
  | none, some _ => false
  | none, none => decide (a.number < b.number)

/-- Put an entry at its place in the table order (R128). -/
def insertEntry (e : PeerEntry) : List PeerEntry → List PeerEntry
  | [] => [e]
  | x :: xs => if standsAhead e x then e :: x :: xs else x :: insertEntry e xs

/-- Set entries in table order (R127, R128). -/
def sortEntries (l : List PeerEntry) : List PeerEntry := l.foldr insertEntry []

/-- The entry of a number. -/
def entryOf (t : PeerTable) (n : Nat) : Option PeerEntry := t.entries.find? (fun e => e.number == n)

/-- The table without the entry of a number. -/
def withoutEntry (l : List PeerEntry) (n : Nat) : List PeerEntry := l.filter (fun e => e.number != n)

/-- An entry as an ANNOUNCE heard at `now` gives it; the score is computed, the mark is the caller's (R122, R123). -/
def entryFrom (p : Profile) (own : GradeRecord) (now : Nat) (a : AnnounceFields) (mark : Option DeclineMark) :
    PeerEntry :=
  scored p own
    { number := a.source
      chemistry := a.chemistry
      series := a.series
      gradeClass := a.gradeClass
      capacity := a.capacity
      r25c := a.r25c
      sd := a.sd
      bondState := a.bondState
      voltage := a.voltage
      epoch := a.epoch
      frozen := a.frozen
      score := none
      lastHeard := now
      mark := mark }

/-- The last entry in table order that is not pinned (R125). -/
def worstUnpinned (t : PeerTable) : Option PeerEntry :=
  t.entries.reverse.find? (fun e => t.pin != some e.number)

/-- A newcomer is admitted to a full table: it is the pinned peer, or it has a score and stands ahead of the worst
unpinned entry (R125). -/
def admitted (t : PeerTable) (e worst : PeerEntry) : Bool :=
  t.pin == some e.number || (e.score.isSome && standsAhead e worst)

/-- The mark an update leaves: removed when the epochs differ or the cold marker is carried (R123). -/
def markAfterAnnounce (old : PeerEntry) (a : AnnounceFields) : Option DeclineMark :=
  if old.epoch ≠ a.epoch ∨ a.coldMarker then none else old.mark

/-- The table is handed an ANNOUNCE: update (R123), insertion (R124), or admission to a full table (R125). -/
def hearAnnounce (p : Profile) (own : GradeRecord) (now : Nat) (a : AnnounceFields) (t : PeerTable) : PeerTable :=
  match entryOf t a.source with
  | some old =>
    { t with entries := insertEntry (entryFrom p own now a (markAfterAnnounce old a)) (withoutEntry t.entries a.source) }
  | none =>
    let e := entryFrom p own now a none
    if t.entries.length < Config.tablePlaces then { t with entries := insertEntry e t.entries }
    else match worstUnpinned t with
      | some w => if admitted t e w then { t with entries := insertEntry e (withoutEntry t.entries w.number) } else t
      | none => t

/-- At an own epoch rise: every score anew, every mark removed, the whole table in order again (R127). -/
def rescoreTable (p : Profile) (own : GradeRecord) (t : PeerTable) : PeerTable :=
  { t with entries := sortEntries (t.entries.map (fun e => { scored p own e with mark := none })) }

/-- The entry is eligible (R129). -/
def eligible (p : Profile) (own : GradeRecord) (e : PeerEntry) : Bool :=
  decide (e.chemistry = p.chemistry ∧ e.series = p.series)
    && e.gradeClass.isSome && decide (e.gradeClass = own.gradeClass) && decide (e.gradeClass ≠ some .x)
    && (match e.score with
        | some x => decide (x ≤ p.matchLimit)
        | none => false)

/-- The candidate order: eligible, advertising FREE, unmarked, in table order (R130). -/
def candidates (p : Profile) (own : GradeRecord) (t : PeerTable) : List PeerEntry :=
  t.entries.filter (fun e => eligible p own e && decide (e.bondState = .free) && e.mark.isNone)

/-- The entry's age has passed: silent for the peer age limit (R131). -/
def aged (p : Profile) (now : Nat) (e : PeerEntry) : Bool :=
  decide (e.lastHeard + p.peerAgeLimit * p.announceInterval ≤ now)

/-- The bond engine pins a number (R134). -/
def pinNumber (n : Nat) (t : PeerTable) : PeerTable := { t with pin := some n }

/-- The bond engine unpins; an entry whose age has passed while it was pinned is removed (R131, R134). -/
def unpin (p : Profile) (now : Nat) (t : PeerTable) : PeerTable :=
  { entries := t.entries.filter (fun e => !(t.pin == some e.number && aged p now e)), pin := none }

/-- The life of a mark from now (R132). -/
def markExpiry (p : Profile) (now : Nat) : Nat := now + p.backoff * p.proposalInterval

/-- Put a mark on the entry of a number, replacing any (R132); no entry, no mark. -/
def placeMark (p : Profile) (now n : Nat) (reason : DeclineReason) (t : PeerTable) : PeerTable :=
  { t with entries := t.entries.map (fun e =>
      if e.number = n then { e with mark := some ⟨reason, markExpiry p now⟩ } else e) }

/-- A mark request marks and unpins as one event (R132). -/
def markAndUnpin (p : Profile) (now n : Nat) (reason : DeclineReason) (t : PeerTable) : PeerTable :=
  unpin p now (placeMark p now n reason t)

/-- The due mark of an entry ends: removed, or moved on when it is a FROZEN mark on a frozen peer (R133). -/
def endMark (p : Profile) (now : Nat) (e : PeerEntry) : PeerEntry :=
  match e.mark with
  | some m =>
    if m.expiry ≤ now then
      if m.reason = .frozen ∧ e.frozen = true then { e with mark := some ⟨.frozen, markExpiry p now⟩ }
      else { e with mark := none }
    else e
  | none => e

end Sys2Proof.Machine
end

