-- ==== Sys2Proof/Machine/Line.lean ====
section
/-! DEFINITION. The line: what an attempt puts on it (R80), how the receiver takes its bits (R77, R81, R82, R84,
R85), how the transmitter reads them back (R90, R91, R92), and the dominant-run events (R78, R79). -/

namespace Sys2Proof.Machine

/-- The delimiter 0 1111111 0. -/
def delimiter : List Bool := [false, true, true, true, true, true, true, true, false]

/-- Content bits with a stuff bit of the opposite value after each run of six, stuff bits counted (R80). `run` and
`last` are the stuffing run count so far and the value of its bits. -/
def stuffFrom (run : Nat) (last : Bool) : List Bool → List Bool
  | [] => []
  | b :: bs =>
    let run' := if 0 < run ∧ b = last then run + 1 else 1
    if run' = 6 then b :: (!b) :: stuffFrom 1 (!b) bs else b :: stuffFrom run' b bs

/-- The bytes of a frame before its check (R194). -/
def frameBody (f : Frame) : List Byte := [f.dst, f.src, f.kind] ++ f.payload

/-- The whole content of a frame, check included (R83, R197). -/
def frameContent (f : Frame) : List Byte := frameBody f ++ checkBytes (frameBody f)

/-- The bits a content puts on the line: delimiter, stuffed content, delimiter (R80). -/
def lineBits (content : List Byte) : List Bool :=
  delimiter ++ stuffFrom 0 false (bytesBits content) ++ delimiter

/-- The address filter: 255 passes, and so does the held node number (R85). -/
def addressPasses (held : Option Nat) (dst : Byte) : Bool :=
  dst == 0xFF#8 || held == some dst.toNat

/-- The receiver back in HUNT with nothing under assembly. -/
def huntAgain (r : Receiver) : Receiver :=
  { r with state := .hunt, leading := false, assembly := [], stuffRun := 0, stuffBit := false, runStuffed := false }

/-- The receiver enters RECEIVING; its stuffing run count starts at the next bit (R84). -/
def openFrame (r : Receiver) : Receiver := { huntAgain r with state := .receiving }

/-- The content at a closing delimiter: the ones of the run that were taken as content, six of them, or five when the
run began with a removed stuff bit, and the leading 0 before them are withdrawn (R81). -/
def withdrawDelimiter (r : Receiver) : List Bool :=
  r.assembly.take (r.assembly.length - (if r.runStuffed then 6 else 7))

/-- A bit taken as content: the filter at the eighth (R85), the abort at the 368th (R82); in SKIPPING nothing is
assembled (R84). -/
def takeContentBit (held : Option Nat) (r : Receiver) (b : Bool) : Receiver :=
  if r.state = .skipping then r
  else
    let a := r.assembly ++ [b]
    if a.length = 8 ∧ addressPasses held (bitsByte a) = false then { r with state := .skipping, assembly := [] }
    else if Config.tooLongBits ≤ a.length then huntAgain r
    else { r with assembly := a }

/-- One bit in RECEIVING or SKIPPING (R81, R84), with the content of a frame it closes. -/
def frameBit (held : Option Nat) (r : Receiver) (b : Bool) : Receiver × Option (List Bool) :=
  if r.stuffRun = 7 then
    (huntAgain r, if b = false ∧ r.state = .receiving then some (withdrawDelimiter r) else none)
  else if r.stuffRun = 6 then
    if b ≠ r.stuffBit then ({ r with stuffRun := 1, stuffBit := b, runStuffed := true }, none)
    else if b then ({ r with stuffRun := 7 }, none)
    else (huntAgain r, none)
  else if 0 < r.stuffRun ∧ b = r.stuffBit then
    (takeContentBit held { r with stuffRun := r.stuffRun + 1 } b, none)
  else
    (takeContentBit held { r with stuffRun := 1, stuffBit := b, runStuffed := false } b, none)

/-- The run counts take one bit (R77). -/
def countBit (r : Receiver) (b : Bool) : Receiver :=
  if b then { r with recessiveRun := r.recessiveRun + 1, dominantRun := 0 }
  else { r with recessiveRun := 0, dominantRun := r.dominantRun + 1 }

/-- The line is idle while the recessive run count is 11 or more (R77). -/
def lineIdle (r : Receiver) : Bool := decide (Config.idleBits ≤ r.recessiveRun)

/-- One bit in HUNT: a 0 out of an idle line, exactly seven ones and a 0 open a frame (R84). `r` holds the run
counts before the bit. -/
def huntBit (r : Receiver) (b : Bool) : Receiver :=
  let r' := countBit r b
  if b then { r' with leading := r.leading && decide (r.recessiveRun < 7) }
  else if r.leading = true ∧ r.recessiveRun = 7 then openFrame r'
  else { r' with leading := lineIdle r }

/-- One bit into the receiver; OFF takes none (R84). -/
def receiverBit (held : Option Nat) (r : Receiver) (b : Bool) : Receiver × Option (List Bool) :=
  match r.state with
  | .off => (r, none)
  | .hunt => (huntBit r b, none)
  | .receiving => frameBit held (countBit r b) b
  | .skipping => frameBit held (countBit r b) b

/-- One bit read back by an attempt: the bit it sent goes on, a released bit read 0 is a lost arbitration (R90), a
driven bit read 1 a line fault (R91), the last bit read as sent a completion (R92). -/
def attemptBit (a : Attempt) (b : Bool) : Attempt :=
  match a.outcome, a.bits[a.sent]? with
  | none, some e =>
    if b = e then
      { a with sent := a.sent + 1, outcome := if a.sent + 1 = a.bits.length then some .complete else none }
    else { a with outcome := some (if e then .lost else .lineFault) }
  | _, _ => a

/-- The attempt's last bit has just been read back as sent. -/
def completesAt (a : Option Attempt) (b : Bool) : Bool :=
  match a with
  | some a => a.outcome == none && (attemptBit a b).outcome == some .complete
  | none => false

/-- The line takes one bit: receiver, read-back, and the events of a dominant run, each taken once at its count
(R78, R79). `held` is the held node number, `stuckAt` the number of bit times in 1 s. -/
def sampleBit (held : Option Nat) (stuckAt : Nat) (l : Link) (b : Bool) : Link :=
  if l.receiver.state = .off then l
  else
    let res := receiverBit held l.receiver b
    let own := completesAt l.attempt b
    let r := if res.1.dominantRun = Config.busResetBits then huntAgain res.1 else res.1
    { l with
      receiver := r
      closed := l.closed ++ (match res.2 with
        | some c => [⟨c, own⟩]
        | none => [])
      resetDue := l.resetDue || decide (r.dominantRun = Config.busResetBits)
      stuckDue := l.stuckDue || decide (r.dominantRun = stuckAt)
      attempt := l.attempt.map (fun a => attemptBit a b) }

/-- The line takes bits in order. -/
def sampleBits (held : Option Nat) (stuckAt : Nat) (l : Link) (bits : List Bool) : Link :=
  bits.foldl (sampleBit held stuckAt) l

/-- Bit times in 1 s at each bit rate code (R76, R79). -/
def bitsPerSecond (code : Nat) : Nat :=
  match code with
  | 0 => 62500
  | 1 => 125000
  | 2 => 250000
  | _ => 500000

end Sys2Proof.Machine
end

