-- ==== Sys2Proof/Machine/Queue.lean ====
section
/-! DEFINITION. The transmit queue (R95 to R97), the link mode's permission (R99), and the passage of the
transmitter between IDLE, WAIT and HOLDOFF (R89, R93). -/

namespace Sys2Proof.Machine

/-- IDLE with a frame queued becomes WAIT, and WAIT with none left becomes IDLE (R89). -/
def transmitterFollows (l : Link) : Link :=
  match l.transmitter with
  | .idle => if l.queue = [] then l else { l with transmitter := .wait }
  | .wait => if l.queue = [] then { l with transmitter := .idle } else l
  | .sending => l
  | .holdoff => l

/-- What the link mode lets into the queue (R99). -/
def modePermits (m : LinkMode) (f : Frame) : Bool :=
  match m with
  | .up => true
  | .listen => f.kind == kindEnum || isRequest f
  | .muted => false

/-- A second ANNOUNCE, ENUM or PROFILE request is not added (R95). -/
def duplicateOf (q : List Frame) (f : Frame) : Bool :=
  (f.kind == kindAnnounce && q.any (fun g => g.kind == kindAnnounce))
    || (f.kind == kindEnum && q.any (fun g => g.kind == kindEnum))
    || (isRequest f && q.any isRequest)

/-- The queue without its ANNOUNCE, unless that is the frame in SENDING (R96). -/
def withoutAnnounce (t : TransmitterState) (q : List Frame) : List Frame :=
  match t, q with
  | .sending, h :: rest => h :: rest.eraseP (fun g => g.kind == kindAnnounce)
  | _, q => q.eraseP (fun g => g.kind == kindAnnounce)

/-- The queue after an offer, by the refusals of R95 and R99 and the full queue of R96. -/
def queueAfterOffer (l : Link) (f : Frame) : List Frame :=
  if modePermits l.mode f = false then l.queue
  else if duplicateOf l.queue f then l.queue
  else if l.queue.length < Config.queuePlaces then l.queue ++ [f]
  else if f.kind == kindAnnounce || isSegment f then l.queue
  else
    let q := withoutAnnounce l.transmitter l.queue
    if q.length < Config.queuePlaces then q ++ [f] else l.queue

/-- The queue takes the frame: an offer that is refused or dropped leaves the queue as it is (R95, R96, R99). -/
def queueTakes (l : Link) (f : Frame) : Bool := decide (queueAfterOffer l f ≠ l.queue)

/-- A builder offers a frame (R95, R96, R99). -/
def offerFrame (l : Link) (f : Frame) : Link :=
  transmitterFollows { l with queue := queueAfterOffer l f }

/-- The list without its newest member that satisfies `p`. -/
def eraseNewest (p : Frame → Bool) (q : List Frame) : List Frame := (q.reverse.eraseP p).reverse

/-- A block withdraws a frame of its own that is not in SENDING; the frames behind it move up (R97). -/
def withdrawFrame (l : Link) (p : Frame → Bool) : Link :=
  transmitterFollows
    { l with queue := match l.transmitter, l.queue with
        | .sending, h :: rest => h :: eraseNewest p rest
        | _, q => eraseNewest p q }

/-- The frame stands in the queue and is not in SENDING. -/
def queuedNotSending (l : Link) (p : Frame → Bool) : Bool :=
  match l.transmitter, l.queue with
  | .sending, _ :: rest => rest.any p
  | _, q => q.any p

/-- The holdoff is over: WAIT with a frame queued, IDLE without (R93). -/
def afterHoldoff (l : Link) : Link :=
  { l with transmitter := if l.queue = [] then .idle else .wait, holdoff := none }

/-- An own attempt ends and the holdoff timer starts; a holdoff of 0 expires at once (R93). `tenths` is the holdoff in
tenths of a ms. -/
def startHoldoff (tenths : Nat) (l : Link) : Link :=
  if tenths = 0 then afterHoldoff { l with attempt := none }
  else { l with transmitter := .holdoff, holdoff := some tenths, attempt := none }

/-- A frame is offered to the receive FIFO: placed while it holds fewer than 4, else discarded with an overrun
(R87, R88). -/
def offerFifo (l : Link) (content : List Byte) : Link :=
  if l.fifo.length < Config.queuePlaces then { l with fifo := l.fifo ++ [content] }
  else { l with overrunFlag := true, newOverrun := true }

end Sys2Proof.Machine
end

