-- ==== Sys2Proof/Machine/Flags.lean ====
section
/-! DEFINITION. The eight flags an ANNOUNCE and a GRADE carry (R106, R195), what a snapshot and a completed ANNOUNCE
do to the sticky flags, their marks and the cold marker (R14, R88, R113, R190), and the payloads of the two
grade-bearing frames. -/

namespace Sys2Proof.Machine

/-- One flag at its bit. -/
def flagBit (b : Bool) (i : Nat) : Byte := if b then BitVec.twoPow 8 i else 0#8

/-- The flags byte, bit 7 down to bit 0: capacity, resistance and SD present, integrity fault, receive overrun, frozen,
cold marker, line fault (R195). -/
def flagsByte (s : State) : Byte :=
  flagBit s.grade.capacity.isSome 7 ||| flagBit s.grade.r25c.isSome 6 ||| flagBit s.grade.sd.isSome 5
    ||| flagBit s.fe.integrityFlag 4 ||| flagBit s.link.overrunFlag 3 ||| flagBit s.ret.freeze 2
    ||| flagBit s.ret.coldMarker 1 ||| flagBit s.link.lineFault 0

/-- The flags byte of a built ANNOUNCE. -/
def announceFlags (f : Frame) : Byte := f.payload.getD 3 0

/-- The partner field: the engaged number, FFH in UNREADY, FREE and REJECTED (R106, R195). -/
def partnerByte (s : State) : Byte :=
  if engagedState s.ret.bondState then byteOf (s.ret.engaged.getD 255) else 0xFF#8

/-- The voltage field: the last voltage sample, FFFFH when absent (R195). -/
def voltageField (v : Option VoltageSample) : List Byte := be16 (match v with
  | some x => x.mv
  | none => 65535)

/-- The temperature field: the last temperature sample, 80H when absent (R195). -/
def temperatureField (t : Option Int) : Byte :=
  match t with
  | some x => signedByte x
  | none => 0x80#8

/-- The payload of an ANNOUNCE, every field as it stands (R106, R112, R195). SOH travels under the capacity flag. -/
def announcePayload (s : State) : List Byte :=
  [byteOf (prof s).chemistry, byteOf (prof s).series, classCode s.grade.gradeClass, flagsByte s,
    bondCode s.ret.bondState, partnerByte s]
    ++ be16 (s.grade.soh.getD 0) ++ be24 (s.grade.capacity.getD 0) ++ be24 (s.grade.r25c.getD 0)
    ++ be16 (s.grade.sd.getD 0) ++ voltageField s.fe.lastVoltage
    ++ [temperatureField s.fe.lastTemperature, byteOf s.grade.epoch]

/-- Seconds since the last capture, saturated at 16,777,214; FFFFFFH when the list is empty (R38, R115, R195). -/
def sinceCapture (s : State) : Nat :=
  match s.ret.points.getLast? with
  | some p => min 16777214 (s.seconds - p.time)
  | none => Config.max24

/-- The payload of a GRADE reply (R115, R195). -/
def gradePayload (s : State) : List Byte :=
  [byteOf (prof s).chemistry, byteOf (prof s).series, classCode s.grade.gradeClass, flagsByte s]
    ++ be16 (s.grade.soh.getD 0) ++ be24 (s.grade.capacity.getD 0) ++ [byteOf s.grade.estimateCount]
    ++ be24 (s.grade.r25c.getD 0) ++ be24 (s.grade.resistance.getD 0)
    ++ [signedByte (s.grade.pulseTemperature.getD 0)] ++ be16 (s.grade.sd.getD 0)
    ++ be16 (s.grade.lastDeltaSoc.getD 0) ++ [byteOf s.ret.points.length] ++ be24 (sinceCapture s)

/-- The own number as a source byte, 0 while no number is held. -/
def ownByte (s : State) : Byte := byteOf (s.comm.held.getD 0)

/-- A snapshot clears the new-fault mark and the new-overrun mark (R14, R88, R112). -/
def clearMarks (s : State) : State :=
  (s.setFe { s.fe with newFault := false }).setLink { s.link with newOverrun := false }

/-- A completed ANNOUNCE clears each sticky flag it carried set whose mark is still clear, and the cold marker if it
carried it set (R14, R88, R113, R190). -/
def announceSent (flags : Byte) (s : State) : State :=
  let s1 := s.setFe { s.fe with integrityFlag := s.fe.integrityFlag && !(flags.getLsbD 4 && !s.fe.newFault) }
  let s2 := s1.setLink { s1.link with overrunFlag := s1.link.overrunFlag && !(flags.getLsbD 3 && !s1.link.newOverrun) }
  s2.setRet { s2.ret with coldMarker := s2.ret.coldMarker && !flags.getLsbD 1 }

end Sys2Proof.Machine
end

