-- ==== Sys2Proof/Machine/Bond.lean ====
section
/-! DEFINITION. The bond engine's shared operations: the frames it builds, its entries to and exits from an engagement
(R139 to R156), the readiness test (R140), the effect of an own epoch rise (R141, R156), and PAIR-EN (R157). -/

namespace Sys2Proof.Machine

/-- A builder offers a frame to the transmit queue (R95, R96, R99). -/
def offer (f : Frame) (s : State) : State := s.setLink (offerFrame s.link f)

/-- A frame from this node to a peer. -/
def toPeer (s : State) (n : Nat) (kind : Byte) (payload : List Byte) : Frame :=
  ⟨byteOf n, ownByte s, kind, payload⟩

/-- PROPOSE: the score held for the peer and the own epoch (R107, R196). -/
def proposeFrame (s : State) (n score : Nat) : Frame :=
  toPeer s n kindPropose (be16 score ++ [byteOf s.grade.epoch])

/-- ACCEPT with the own epoch (R107). -/
def acceptFrame (s : State) (n : Nat) : Frame := toPeer s n kindAccept [byteOf s.grade.epoch]

/-- CONFIRM with the own epoch (R107). -/
def confirmFrame (s : State) (n : Nat) : Frame := toPeer s n kindConfirm [byteOf s.grade.epoch]

/-- DECLINE with its reason (R108). -/
def declineFrame (s : State) (n : Nat) (r : DeclineReason) : Frame := toPeer s n kindDecline [declineCode r]

/-- RELEASE with its reason (R108). -/
def releaseFrame (s : State) (n : Nat) (r : ReleaseReason) : Frame := toPeer s n kindRelease [releaseCode r]

/-- The queued PROPOSE addressed to a number. -/
def isProposeTo (n : Nat) (f : Frame) : Bool := f.kind == kindPropose && f.dst == byteOf n

/-- On leaving PROPOSING the engine withdraws its PROPOSE if it is still queued and not in SENDING (R143). The queue keeps
the order of the offers, so a PROPOSE it took is the newest one to the target while it stands there; an older one, of an
earlier handshake, is left alone (log entry 16). -/
def withdrawPropose (s : State) : State :=
  match s.ret.bondState, s.ret.engaged with
  | .proposing, some n =>
    if s.bond.proposeTaken then s.setLink (withdrawFrame s.link (isProposeTo n)) else s
  | _, _ => s

/-- The engine unpins (R134). -/
def unpinEngaged (s : State) : State := s.setTable (unpin (prof s) s.seconds s.table)

/-- The engine pins a number (R134). -/
def pinEngaged (n : Nat) (s : State) : State := s.setTable (pinNumber n s.table)

/-- Set the bond state and the engaged number. -/
def setBondState (b : BondState) (n : Option Nat) (s : State) : State :=
  s.setRet { s.ret with bondState := b, engaged := n }

/-- The reply, hold and partner timers are stopped, and what belonged to the engagement is gone: the bond class and the
partner report absent, PAIR-EN inactive, no PROPOSE of its own queued (R158, R161, R163; DEDUCED for the exits to FREE, log entry 13). -/
def clearBond (s : State) : State :=
  s.setBond { s.bond with
    replyTimer := none
    holdTimer := none
    partnerTimer := none
    bondClass := none
    report := none
    pairEn := false
    proposeTaken := false }

/-- The engine leaves whatever engagement it had for a state without one: a queued PROPOSE is withdrawn (R143), the
timers of the engagement stop, the peer is unpinned (R134), and PAIR-EN goes inactive (R158). -/
def disengage (next : BondState) (s : State) : State :=
  setBondState next none (unpinEngaged (clearBond (withdrawPropose s)))

/-- The same exit with the unpin carried by a mark request (R132, R148, R149). -/
def disengageMarked (n : Nat) (r : DeclineReason) (s : State) : State :=
  let s1 := clearBond (withdrawPropose s)
  setBondState .free none (s1.setTable (markAndUnpin (prof s1) s1.seconds n r s1.table))

/-- FREE, or REJECTED when the own class is X (R154, R156). -/
def freeOrRejected (s : State) : BondState :=
  if s.grade.gradeClass = some .x then .rejected else .free

/-- The Grade Record is complete: C and R25C both present (R53). -/
def recordComplete (g : GradeRecord) : Bool := g.capacity.isSome && g.r25c.isSome

/-- The engine is ready: record complete, link UP, rest detector ACTIVE (R140). -/
def engineReady (s : State) : Bool :=
  recordComplete s.grade && decide (s.link.mode = .up) && decide (s.ret.activity = .active)

/-- An UNREADY engine that is ready enters FREE, or REJECTED if the own class is X (R140). -/
def readinessTest (s : State) : State :=
  if s.ret.bondState = .unready ∧ engineReady s = true then
    match s.grade.gradeClass with
    | some .x => setBondState .rejected none s
    | some _ => setBondState .free none s
    | none => s
  else s

/-- BONDED or BONDED-SILENT. -/
def bondStands (b : BondState) : Bool :=
  match b with
  | .bonded => true
  | .bondedSilent => true
  | .unready => false
  | .free => false
  | .proposing => false
  | .held => false
  | .rejected => false

/-- The three conditions of R157, with the own voltage given. -/
def pairTestPasses (s : State) (own : Option Nat) : Bool :=
  match s.bond.report, own with
  | some ⟨some pv, t⟩, some ov =>
    decide (s.seconds ≤ t + 2 * (prof s).announceInterval) && decide (absDiff ov pv ≤ (prof s).joinLimit)
  | _, _ => false

/-- Test PAIR-EN in BONDED and BONDED-SILENT; once asserted it stays asserted (R157). -/
def pairTest (own : Option Nat) (s : State) : State :=
  if bondStands s.ret.bondState = true ∧ pairTestPasses s own = true then s.setBond { s.bond with pairEn := true } else s

/-- The own voltage of a test that uses the last voltage sample (R157). -/
def lastMillivolts (s : State) : Option Nat := s.fe.lastVoltage.map (fun v => v.mv)

/-- The partner timer's run, s (R152). -/
def partnerRun (s : State) : Nat := (prof s).partnerTimeout * (prof s).announceInterval

/-- The partner report out of the peer table, absent when the partner has no entry (R130, R152). -/
def reportFromTable (s : State) (n : Nat) : Option PartnerReport :=
  (entryOf s.table n).map (fun e => ⟨e.voltage, e.lastHeard⟩)

/-- Entry to BONDED (R152): bond class, count, partner timer, partner report, PAIR-EN test. The frame that formed the
bond stops the reply or hold timer, and the pin stays on the partner. -/
def enterBonded (n : Nat) (s : State) : State :=
  let s1 := setBondState .bonded (some n) s
  pairTest (lastMillivolts s1)
    (s1.setBond { s1.bond with
      replyTimer := none
      holdTimer := none
      partnerTimer := some (partnerRun s1)
      inconsistency := 0
      bondClass := s1.grade.gradeClass
      report := reportFromTable s1 n
      proposeTaken := false })

/-- Enter PROPOSING with a target: pinned, reply timer started; `taken` says whether the queue took the PROPOSE (R143). -/
def enterProposing (n : Nat) (taken : Bool) (s : State) : State :=
  let s1 := pinEngaged n (setBondState .proposing (some n) s)
  s1.setBond { s1.bond with replyTimer := some (prof s1).replyTime, proposeTaken := taken }

/-- Enter HELD with a held proposer: pinned, hold timer started, reply timer stopped (R144, R146). -/
def enterHeld (n : Nat) (s : State) : State :=
  let s1 := pinEngaged n (setBondState .held (some n) s)
  s1.setBond { s1.bond with replyTimer := none, holdTimer := some (prof s1).holdTime, proposeTaken := false }

/-- Release the partner with a reason and leave the bond (R141, R154, R156, R160). -/
def releasePartner (r : ReleaseReason) (next : BondState) (s : State) : State :=
  match s.ret.engaged with
  | some n => disengage next (offer (releaseFrame s n r) s)
  | none => disengage next s

/-- An own epoch rise at the bond engine (R140, R141, R156). `before` is the class before the event. -/
def bondEpochRise (before : Option GradeClass) (s : State) : State :=
  match s.ret.bondState with
  | .unready => readinessTest s
  | .free =>
    if recordComplete s.grade = false then disengage .unready s
    else if s.grade.gradeClass = some .x then disengage .rejected s
    else s
  | .rejected =>
    if recordComplete s.grade = false then disengage .unready s
    else if s.grade.gradeClass = some .x then s
    else disengage .free s
  | .proposing =>
    if recordComplete s.grade = false then disengage .unready s
    else if s.grade.gradeClass ≠ before then disengage (freeOrRejected s) s
    else s
  | .held =>
    if recordComplete s.grade = false then disengage .unready s
    else if s.grade.gradeClass ≠ before then disengage (freeOrRejected s) s
    else s
  | .bonded =>
    if recordComplete s.grade = false then releasePartner .regrade .unready s
    else if s.grade.gradeClass ≠ s.bond.bondClass ∧ s.ret.freeze = false then
      releasePartner .classChange (freeOrRejected s) s
    else s
  | .bondedSilent =>
    if recordComplete s.grade = false then releasePartner .regrade .unready s else s

end Sys2Proof.Machine
end

