-- ==== Sys2Proof/Machine/Grading.lean ====
section
/-! DEFINITION. The grade unit: the OCV lookup (R56), the capacity estimate (R58 to R63), the pulse result in the record
(R64, R65), self-discharge (R66, R67), the class (R68, R69), the epoch (R54, R55), and the emptied record of a
REGRADE (R73). -/

namespace Sys2Proof.Machine

/-- OCV-to-SOC: the end values beyond the table, else along the segment, rounded half up (R56). -/
def socLookup : List OcvPoint → Nat → Nat
  | [], _ => 0
  | [p], _ => p.soc
  | p :: q :: rest, v =>
    if v ≤ p.mv then p.soc
    else if v < q.mv then p.soc + roundHalfUp ((v - p.mv) * (q.soc - p.soc)) (q.mv - p.mv)
    else socLookup (q :: rest) v

/-- A temperature lies in a window, ends included (R24, R39). -/
def inWindow (lo hi t : Int) : Bool := decide (lo ≤ t ∧ t ≤ hi)

/-- In the capture window of the profile (R24). -/
def inCaptureWindow (p : Profile) (t : Int) : Bool := inWindow p.captureLow p.captureHigh t

/-- The class of SOH (R68). -/
def sohClass (p : Profile) (soh : Nat) : GradeClass :=
  if p.sA ≤ soh then .a else if p.sB ≤ soh then .b else if p.sC ≤ soh then .c else .x

/-- The class of a metric that is better when lower: the resistance ratio and SD (R68). -/
def risingClass (tA tB tC v : Nat) : GradeClass :=
  if v ≤ tA then .a else if v ≤ tB then .b else if v ≤ tC then .c else .x

/-- The rank of a class, A best (R69). -/
def classRank (k : GradeClass) : Nat :=
  match k with
  | .a => 0
  | .b => 1
  | .c => 2
  | .x => 3

/-- The worse of two classes (R69). -/
def worse (k l : GradeClass) : GradeClass := if classRank k ≤ classRank l then l else k

/-- The class of a record: absent while it is incomplete, else the worst of its present metrics (R69). -/
def deriveClass (p : Profile) (g : GradeRecord) : Option GradeClass :=
  if recordComplete g then
    match g.soh, g.ratio with
    | some soh, some ratio =>
      let two := worse (sohClass p soh) (risingClass p.rA p.rB p.rC ratio)
      some (match g.sd with
        | some sd => worse two (risingClass p.dA p.dB p.dC sd)
        | none => two)
    | _, _ => none
  else none

/-- The published fields differ: every field but the resistance ratio and the epoch (R54). -/
def publishedDiffer (a b : GradeRecord) : Bool :=
  !decide ({ a with ratio := none, epoch := 0 } = { b with ratio := none, epoch := 0 })

/-- The epoch raised by 1; a rise from 255 gives 0 (R54). -/
def raisedEpoch (e : Nat) : Nat := (e + 1) % 256

/-- The grade unit tells the peer table and the bond engine of a rise (R55). -/
def tellEpochRise (before : Option GradeClass) (s : State) : State :=
  bondEpochRise before (s.setTable (rescoreTable (prof s) s.grade s.table))

/-- One event at the grade unit: the fields are set, the class is derived, and the epoch rises once if a published
field has changed (R54, R55, R69). -/
def gradeEvent (g : GradeRecord) (s : State) : State :=
  let g' := { g with gradeClass := deriveClass (prof s) g }
  if publishedDiffer s.grade g' then
    tellEpochRise s.grade.gradeClass (s.setRet { s.ret with grade := { g' with epoch := raisedEpoch s.grade.epoch } })
  else s.setRet { s.ret with grade := g' }

/-- SOH of a capacity (R63). -/
def sohOf (p : Profile) (c : Nat) : Nat := min 1000 (roundHalfUp (c * 1000) p.ratedCapacity)

/-- The raw estimate (R60). -/
def rawEstimate (deltaQ : Int) (deltaSoc : Nat) : Nat := min Config.max24 (roundHalfUp (deltaQ.toNat * 1000) deltaSoc)

/-- The smoothed capacity after an estimate (R61). -/
def foldEstimate (p : Profile) (held : Option Nat) (estimate : Nat) : Nat :=
  match held with
  | none => estimate
  | some c => roundHalfUp (c * (16 - p.smoothing) + estimate * p.smoothing) 16

/-- The record after an accepted estimate (R61, R62, R63). -/
def withEstimate (p : Profile) (estimate deltaSoc : Nat) (g : GradeRecord) : GradeRecord :=
  let c := foldEstimate p g.capacity estimate
  { g with
    capacity := some c
    estimateCount := min 255 (g.estimateCount + 1)
    lastDeltaSoc := some deltaSoc
    soh := some (sohOf p c) }

/-- A pair offer at the grade unit: narrow, inconsistent (a removal request of the older point, R59), or an estimate
(R58, R60). -/
def takePairOffer (high low : RestPoint) (s : State) : State :=
  let deltaSoc := high.soc - low.soc
  let deltaQ := high.charge - low.charge
  if deltaSoc < (prof s).minimumWindow then s
  else if deltaQ ≤ 0 then
    s.setRest { s.rest with removals := s.rest.removals ++ [min high.time low.time] }
  else gradeEvent (withEstimate (prof s) (rawEstimate deltaQ deltaSoc) deltaSoc s.grade) s

/-- The resistance ratio of an R25C, truncated and saturated (R65). -/
def ratioOf (p : Profile) (r25c : Nat) : Nat := min Config.max16 (r25c * 1000 / p.ratedResistance)

/-- A valid pulse result in the record (R64, R65). -/
def takePulseResult (r r25c : Nat) (t : Int) (s : State) : State :=
  gradeEvent { s.grade with
    resistance := some r
    r25c := some r25c
    pulseTemperature := some t
    ratio := some (ratioOf (prof s) r25c) } s

/-- The self-discharge rate of a rest (R67). -/
def selfDischarge (refSoc refTime nowSoc now : Nat) : Nat :=
  if refSoc < nowSoc then 0 else min Config.max16 (roundHalfUp ((refSoc - nowSoc) * 86400) (now - refTime))

/-- A self-discharge offer: no rate when either temperature lies outside the capture window (R66). -/
def takeSelfDischarge (ref : LongRestReference) (nowSoc : Nat) (nowTemp : Int) (s : State) : State :=
  if inCaptureWindow (prof s) ref.temperature = true ∧ inCaptureWindow (prof s) nowTemp = true then
    gradeEvent { s.grade with sd := some (selfDischarge ref.soc ref.time nowSoc s.seconds) } s
  else s

/-- The record a REGRADE leaves: every optional field absent, the count 0, the epoch raised by 1 (R73). -/
def regradedRecord (g : GradeRecord) : GradeRecord := { emptyGrade with epoch := raisedEpoch g.epoch }

end Sys2Proof.Machine
end

