-- ==== Sys2Proof/Machine/Resting.lean ====
section
/-! DEFINITION. The rest detector and the pulse engine: the continuity break (R36), the Rest Point List and its extreme
pair (R32 to R35), the capture (R26, R27), the entry to RESTED (R29), the pulse (R39 to R50), and what each does
with a sample record (R22, R23, R42, R44). -/

namespace Sys2Proof.Machine

/-- W of a gate code, ms (R6). -/
def windowMs (code : Nat) : Nat :=
  match code with
  | 0 => 1
  | 1 => 2
  | 2 => 5
  | 3 => 10
  | 4 => 20
  | 5 => 50
  | _ => 100

/-- The integrity tolerance of a code, pulses (R13). -/
def tolerancePulses (code : Nat) : Nat :=
  match code with
  | 0 => 0
  | 1 => 2
  | 2 => 8
  | _ => 32

/-- A continuity break at the rest detector (R36): the list is emptied, the pair last offered forgotten, the state MOVING,
both timers stopped, the reference absent; the activity is unchanged. -/
def continuityBreak (s : State) : State :=
  (s.setRet { s.ret with points := [], offered := none }).setRest
    { s.rest with state := .moving, restTimer := none, longTimer := none, reference := none }

/-- The place of the high point: highest SOC, the most recent among equals; the list is in capture order (R34). -/
def highIndex : List RestPoint → Nat
  | [] => 0
  | [_] => 0
  | p :: q :: rest =>
    let j := highIndex (q :: rest)
    if ((q :: rest).getD j q).soc < p.soc then 0 else j + 1

/-- The place of the low point: lowest SOC, the most recent among equals (R34). -/
def lowIndex : List RestPoint → Nat
  | [] => 0
  | [_] => 0
  | p :: q :: rest =>
    let j := lowIndex (q :: rest)
    if p.soc < ((q :: rest).getD j q).soc then 0 else j + 1

/-- The high point of a list (R34). -/
def highPoint (l : List RestPoint) : Option RestPoint := l[highIndex l]?

/-- The low point of a list (R34). -/
def lowPoint (l : List RestPoint) : Option RestPoint := l[lowIndex l]?

/-- After a change of the list: a pair that differs from the one last offered is recorded and offered (R34). -/
def examinePair (s : State) : State :=
  match highPoint s.ret.points, lowPoint s.ret.points with
  | some h, some l =>
    if 2 ≤ s.ret.points.length ∧ s.ret.offered ≠ some ⟨h.time, l.time⟩ then
      takePairOffer h l (s.setRet { s.ret with offered := some ⟨h.time, l.time⟩ })
    else s
  | _, _ => s

/-- The place of the oldest point that is neither the high nor the low point (R33); of nine, one of the first three
is neither. -/
def oldestOther (l : List RestPoint) : Nat :=
  if 0 ≠ highIndex l ∧ 0 ≠ lowIndex l then 0
  else if 1 ≠ highIndex l ∧ 1 ≠ lowIndex l then 1
  else 2

/-- A point added at the newest end; of nine, the oldest that is no extreme is removed (R32, R33). -/
def addPoint (p : RestPoint) (l : List RestPoint) : List RestPoint :=
  let longer := l ++ [p]
  if longer.length ≤ Config.listPlaces then longer else longer.eraseIdx (oldestOther longer)

/-- The lookup SOC of a voltage sample's cell voltage (R57). -/
def socOf (s : State) (v : VoltageSample) : Nat := socLookup (prof s).ocv v.cell

/-- Entry to RESTED: reference and long-rest timer (R29). -/
def enterRested (s : State) : State :=
  match s.fe.lastVoltage, s.fe.lastTemperature with
  | some v, some t =>
    s.setRest { s.rest with
      state := .rested
      restTimer := none
      longTimer := some (s.seconds + (prof s).longRestTime * 3600)
      reference := some ⟨v.mv, socOf s v, s.seconds, t⟩ }
  | _, _ => s

/-- The pulse is due: no R25C held, no last valid pulse time, or the due time reached (R39). -/
def pulseDue (s : State) : Bool :=
  s.grade.r25c.isNone
    || (match s.ret.lastPulse with
        | none => true
        | some t => decide (t + (prof s).pulseInterval * 3600 ≤ s.seconds))

/-- The engine starts a pulse at an offer (R39). -/
def startsPulse (s : State) (temperature : Int) : Bool :=
  decide (s.pulse.state = .idle) && pulseDue s && inWindow (prof s).pulseLow (prof s).pulseHigh temperature

/-- The pulse offer of a capture: a started pulse and POST-PULSE SETTLING (R27, R40), or RESTED at once. -/
def offerPulse (temperature : Int) (s : State) : State :=
  match s.fe.lastSample with
  | some rec =>
    if startsPulse s temperature then
      (s.setPulse ⟨.pulsing, 0, false, some ⟨rec.voltage, rec.current⟩, none⟩).setRest
        { s.rest with state := .postPulseSettling, restTimer := none, longTimer := none, reference := none }
    else enterRested s
  | none => enterRested s

/-- The rest point of a capture (R26). -/
def formPoint (s : State) (v : VoltageSample) (t : Int) : RestPoint :=
  ⟨s.seconds, v.mv, v.cell, socOf s v, s.ret.charge, t⟩

/-- A capture: the point into the list and the extreme pair examined, then the offer to the pulse engine (R26, R27).
Without a voltage and a temperature sample, which RUN always holds (R9, R11), there is nothing to capture. -/
def capture (s : State) : State :=
  match s.fe.lastVoltage, s.fe.lastTemperature with
  | some v, some t =>
    let s1 := s.setRest { s.rest with restTimer := none, longTimer := none, reference := none }
    offerPulse t (examinePair (s1.setRet { s1.ret with points := addPoint (formPoint s1 v t) s1.ret.points }))
  | _, _ => s

/-- A sample record at the rest detector (R20, R22, R23, R27, R28, R36). In POST-PULSE SETTLING the rest timer runs from
the pulse-over report on, so a stopped timer means the record belongs to the pulse. -/
def restTakesRecord (rec : SampleRecord) (s : State) : State :=
  if rec.faulted then continuityBreak s
  else if s.ret.activity = .dormant then s
  else
    let quiet := decide (rec.current.natAbs ≤ (prof s).restThreshold)
    match s.rest.state with
    | .moving =>
      if quiet then
        s.setRest { s.rest with state := .settling, restTimer := some (rec.seconds + (prof s).restTime * 60) }
      else s
    | .postPulseSettling =>
      if quiet = true ∨ s.rest.restTimer = none then s
      else s.setRest { s.rest with state := .moving, restTimer := none, longTimer := none, reference := none }
    | .settling =>
      if quiet then s
      else s.setRest { s.rest with state := .moving, restTimer := none, longTimer := none, reference := none }
    | .capturePending =>
      if quiet then s
      else s.setRest { s.rest with state := .moving, restTimer := none, longTimer := none, reference := none }
    | .rested =>
      if quiet then s
      else s.setRest { s.rest with state := .moving, restTimer := none, longTimer := none, reference := none }

/-- The pulse-over report at the rest detector: it starts the second rest timer in POST-PULSE SETTLING and is ignored
elsewhere (R28). -/
def reportPulseOver (s : State) : State :=
  if s.rest.state = .postPulseSettling then
    s.setRest { s.rest with restTimer := some (s.seconds + (prof s).restTime * 60) }
  else s

/-- The pulse length in windows: the pulse width over W, rounded up (R43). -/
def pulseWindows (p : Profile) : Nat := divRoundUp p.pulseWidth (windowMs p.gateCode)

/-- R of a valid pulse (R46). -/
def resistanceOf (deltaV deltaI : Nat) : Nat := min Config.max24 (roundHalfUp (deltaV * 1000000) deltaI)

/-- The temperature factor, clamped to 250…4000 (R47). -/
def temperatureFactor (alpha : Nat) (t : Int) : Nat := (clamp 250 4000 (1000 + alpha * (t - 25))).toNat

/-- R25C (R47). -/
def normalised (alpha r : Nat) (t : Int) : Nat := min Config.max24 (roundHalfUp (r * temperatureFactor alpha t) 1000)

/-- The tests 1 to 4 of R44 on a return record. -/
def pulseValid (p : Profile) (spoiled : Bool) (pre : PreSample) (post : EndSample) (rec : SampleRecord) : Bool :=
  !spoiled && !rec.faulted && decide (post.v1 < pre.v0) && decide ((p.minimumStep : Int) ≤ pre.i0 - post.i1)
    && decide ((rec.current - pre.i0).natAbs ≤ p.restThreshold)

/-- The result of a valid pulse is handed to the grade unit, and its time kept (R46 to R48). -/
def handPulseResult (pre : PreSample) (post : EndSample) (seconds : Nat) (s : State) : State :=
  let r := resistanceOf (pre.v0 - post.v1) (pre.i0 - post.i1).toNat
  takePulseResult r (normalised (prof s).alpha r post.temperature) post.temperature
    (s.setRet { s.ret with lastPulse := some seconds })

/-- The engine back in IDLE with both samples absent (R44); the window count and the mark stand until the next start. -/
def endPulse (s : State) : State := s.setPulse { s.pulse with state := .idle, pre := none, post := none }

/-- A sample record at the pulse engine (R42, R44, R45). -/
def pulseTakesRecord (rec : SampleRecord) (s : State) : State :=
  match s.pulse.state with
  | .idle => s
  | .pulsing =>
    let p := { s.pulse with windows := s.pulse.windows + 1, spoiled := s.pulse.spoiled || rec.faulted }
    if p.windows = pulseWindows (prof s) + 1 then
      s.setPulse { p with
        state := .returnCheck
        post := s.fe.lastTemperature.map (fun t => ⟨rec.voltage, rec.current, t⟩) }
    else s.setPulse p
  | .returnCheck =>
    match s.pulse.pre, s.pulse.post with
    | some pre, some post =>
      if pulseValid (prof s) s.pulse.spoiled pre post rec then
        reportPulseOver (handPulseResult pre post rec.seconds (endPulse s))
      else reportPulseOver (endPulse s)
    | _, _ => reportPulseOver (endPulse s)

/-- A pulse in flight is abandoned: IDLE, the window count 0, the spoiled mark clear, both samples absent (R49, R50). In IDLE
there is none, and the engine stands as it is (R49: "changes only the LOAD pin"; R50 names only the last valid pulse
time). -/
def abandonPulse (p : PulseEngine) : PulseEngine :=
  match p.state with
  | .idle => p
  | .pulsing => idlePulse
  | .returnCheck => idlePulse

/-- A REGRADE at the pulse engine: a pulse in flight abandoned, the last valid pulse time absent, and the pulse
reported over, which the rest detector in MOVING ignores (R50). -/
def clearPulse (s : State) : State :=
  (s.setRet { s.ret with lastPulse := none }).setPulse (abandonPulse s.pulse)

end Sys2Proof.Machine
end

