-- ==== Sys2Proof/Machine/Commission.lean ====
section
/-! DEFINITION. Commissioning and the link modes: the effects of UP and MUTED on every block (R98, R99, R110, R136, R142,
R163), the numbering (R175 to R181), the profile's coming into force (R167, R174, R191), the share broadcast (R173),
the assembly buffer (R172), and the reports of dropped and sent frames (R92, R176, R178, R179). -/

namespace Sys2Proof.Machine

/-- The supply monitor is in RUN. -/
def inRun (s : State) : Bool := decide (s.supply.state = .run)

/-- The first expiry of the announce timer after UP, ms (R110). -/
def announceOffset (p : Profile) (n : Nat) : Nat := n * 37 % (p.announceInterval * 1000)

/-- The first expiry of the proposal timer after UP, ms (R142). -/
def proposalOffset (p : Profile) (n : Nat) : Nat := n * 53 % (p.proposalInterval * 1000)

/-- A sharer: the profile came from external memory and has the sharing option set (R173). -/
def isSharer (s : State) : Bool := decide (s.ret.source = some .externalMemory) && (prof s).sharing

/-- A share broadcast starts, or starts again, at segment 0 (R173). -/
def startShare (s : State) : State := if isSharer s then s.setComm { s.comm with share := some 0 } else s

/-- The link mode becomes UP: the announce and the proposal timer start, the readiness test is made, a sharer starts
its broadcast (R98, R110, R142, R140, R173). -/
def linkUp (s : State) : State :=
  let n := s.comm.held.getD 0
  let s1 := s.setLink { s.link with mode := .up }
  let s2 := s1.setFp { s1.fp with announceTimer := some (announceOffset (prof s1) n) }
  let s3 := s2.setBond { s2.bond with proposalTimer := some (proposalOffset (prof s2) n) }
  startShare (readinessTest s3)

/-- The link at an entry to MUTED: the queue emptied, a frame in SENDING abandoned into HOLDOFF (R99). -/
def muteLink (tenths : Nat) (l : Link) : Link :=
  let l1 := { l with mode := .muted, queue := [] }
  if l1.transmitter = .sending then startHoldoff tenths l1 else transmitterFollows l1

/-- The bond engine at an entry to MUTED: UNREADY from every state unless frozen; the proposal timer stops (R163). An unfrozen
engine unpins, as R134 and R163 say, where the table of R137 has the pin number kept as the mode leaves UP: log entry
33. -/
def muteBond (s : State) : State :=
  let s1 := s.setBond { s.bond with proposalTimer := none }
  if s1.ret.freeze then s1 else disengage .unready s1

/-- The link mode becomes MUTED (R99, R110, R136, R163, R173). The pin number is kept by the table. -/
def enterMuted (s : State) : State :=
  let s1 := s.setLink (muteLink (prof s).holdoff s.link)
  let s2 := s1.setFp { s1.fp with announceTimer := none }
  let s3 := s2.setTable { s2.table with entries := [] }
  let s4 := s3.setComm { s3.comm with share := none }
  muteBond s4

/-- A number conflict reported by the link: taken in CLAIMING by a FIXED or RETAINED node and in NUMBERED by any, ignored
in every other state (R180). -/
def takesConflict (c : Commissioning) : Bool :=
  match c.numbering with
  | some .numbered => true
  | some .claiming => decide (c.method = some .fixed ∨ c.method = some .retained)
  | some .chainWait => false
  | some .quietWait => false
  | some .conflict => false
  | some .noNumber => false
  | none => false

/-- The number conflict (R180): CONFLICT, READY, and MUTED; the numbers are kept. -/
def numberConflict (s : State) : State :=
  if takesConflict s.comm then
    enterMuted (s.setComm { s.comm with state := .ready, numbering := some .conflict, quietTimer := none })
  else s

/-- The ENUM of a claim (R105, R176, R178, R196). -/
def enumFrame (source claim : Nat) (m : NumberMethod) : Frame :=
  ⟨broadcast, byteOf source, kindEnum, [byteOf claim, methodCode m]⟩

/-- An ENUM. -/
def isEnum (f : Frame) : Bool := f.kind == kindEnum

/-- A FIXED or RETAINED node enters CLAIMING: it holds the number and offers its ENUM (R176). -/
def claimHeld (n : Nat) (m : NumberMethod) (s : State) : State :=
  let s1 := s.setComm { s.comm with
    state := .numbering
    numbering := some .claiming
    method := some m
    claim := some n
    held := some n }
  offer (enumFrame n n m) s1

/-- QUIET WAIT with the quiet timer started for 50 ms (R177, R178). -/
def enterQuietWait (s : State) : State :=
  s.setComm { s.comm with numbering := some .quietWait, quietTimer := some Config.quietMs, claim := none }

/-- A chained node enters CHAIN WAIT, and QUIET WAIT at once when CHAIN-IN is active (R177). -/
def enterChainWait (s : State) : State :=
  let s1 := s.setComm { s.comm with
    state := .numbering
    numbering := some .chainWait
    method := some .chained
    claim := none
    held := none }
  if s1.pins.chainIn then enterQuietWait s1 else s1

/-- The entry to NUMBERING chooses the method (R175). -/
def enterNumbering (s : State) : State :=
  if (prof s).nodeNumber ≠ 0 then claimHeld (prof s).nodeNumber .fixed s
  else match s.ret.number with
    | some nn => claimHeld nn.number .retained s
    | none => enterChainWait s

/-- A chained node enters CLAIMING with the claim formed anew; above 239 it has NO NUMBER (R178, R181). -/
def chainedClaim (s : State) : State :=
  let claim := s.comm.highest + 1
  if 239 < claim then
    enterMuted (s.setComm { s.comm with
      state := .ready, numbering := some .noNumber, quietTimer := none, claim := none })
  else
    let s1 := s.setComm { s.comm with numbering := some .claiming, quietTimer := none, claim := some claim }
    offer (enumFrame 0 claim .chained) s1

/-- The ENUM sent report makes the node NUMBERED (R179). -/
def becomeNumbered (s : State) : State :=
  match s.comm.numbering, s.comm.claim, s.comm.method with
  | some .claiming, some n, some m =>
    let s1 := s.setComm { s.comm with state := .ready, numbering := some .numbered, held := some n, claim := none }
    linkUp (s1.setRet { s1.ret with number := some ⟨n, m⟩ })
  | _, _, _ => s

/-- A queued frame is reported dropped to its builder, after a line fault or a bus reset. Only the ENUM's builder acts:
a FIXED or RETAINED claim is offered again at once, a chained one goes back to QUIET WAIT (R92, R176, R178). -/
def reportDropped (f : Frame) (s : State) : State :=
  if isEnum f = true ∧ s.comm.numbering = some .claiming then
    match s.comm.method, s.comm.claim with
    | some .chained, _ => enterQuietWait s
    | some m, some n => offer (enumFrame n n m) s
    | _, _ => s
  else s

/-- A frame is reported sent to its builder (R92): ANNOUNCE and ENUM have builders that act. -/
def reportSent (f : Frame) (s : State) : State :=
  if f.kind == kindAnnounce then announceSent (announceFlags f) s
  else if isEnum f then becomeNumbered s
  else s

/-- Note a number as the highest heard where it is higher (R175). -/
def noteHighest (n : Nat) (s : State) : State := s.setComm { s.comm with highest := max s.comm.highest n }

/-- A chained claim whose ENUM stands in the queue and is not in SENDING. -/
def claimWaits (s : State) : Bool :=
  decide (s.comm.numbering = some .claiming ∧ s.comm.method = some .chained) && queuedNotSending s.link isEnum

/-- The chained claim is withdrawn and the node waits again (R178). -/
def withdrawClaim (s : State) : State := enterQuietWait (s.setLink (withdrawFrame s.link isEnum))

/-- An ENUM at the commissioning unit (R105, R175, R177, R178). -/
def commTakesEnum (claimed : Nat) (s : State) : State :=
  let s1 := noteHighest claimed s
  if s1.comm.numbering = some .quietWait then s1.setComm { s1.comm with quietTimer := some Config.quietMs }
  else if claimWaits s1 then withdrawClaim s1
  else s1

/-- The source of an ANNOUNCE at the commissioning unit (R175, R178). -/
def commTakesAnnounce (source : Nat) (s : State) : State :=
  let s1 := noteHighest source s
  if claimWaits s1 = true ∧ s1.comm.claim.getD 0 ≤ source then withdrawClaim s1 else s1

/-- The bond engine when a kept bond or a kept FREE or REJECTED meets the activity and the profile of a start
(R164, R167): a kept BONDED starts a fresh partner timer, a FREE or REJECTED engine of a dormant node is UNREADY. -/
def startBond (s : State) : State :=
  match s.ret.bondState with
  | .bonded => s.setBond { s.bond with partnerTimer := some (partnerRun s) }
  | .free => if s.ret.activity = .dormant then setBondState .unready none s else s
  | .rejected => if s.ret.activity = .dormant then setBondState .unready none s else s
  | .unready => s
  | .proposing => s
  | .held => s
  | .bondedSilent => s

/-- Every retained item takes its cold start value and the seconds counter 0, the check words are written (R186, R191).
The retention check value is computed at the end of the event. -/
def coldDomain : Domain := ⟨coldRetained, 0, 0, Config.checkWord1, Config.checkWord2, 0#16⟩

/-- A restart made cold (R191): the retained items and what the bond engine and the pin hang on them; the other state
taken since the entry to RUN stands. -/
def madeCold (s : State) : State :=
  let s1 := s.setDom coldDomain
  let s2 := s1.setTable ⟨[], none⟩
  s2.setBond stoppedBond

/-- The comparison at a profile's coming into force: a retained check value that is present and differs makes the start
cold (R174, R191). -/
def compareCheck (check : Word16) (s : State) : State :=
  match s.ret.profileCheck with
  | some v => if v = check then s else madeCold s
  | none => s

/-- The front end when the profile comes into force: the open window abandoned and a new one opened, the cell voltage
derived anew (R167, R10). `p` is the profile. -/
def reopenFrontEnd (p : Profile) (fe : FrontEnd) : FrontEnd :=
  { fe with
    window := some (windowMs p.gateCode)
    chg := 0
    dsg := 0
    lastVoltage := fe.lastVoltage.map (fun v => ⟨v.mv, roundHalfUp v.mv p.series⟩) }

/-- The link when the profile comes into force: the receiver in HUNT with both run counts 0, an attempt in SENDING given
up with its frame kept at the head, as after an arbitration loss (R76). -/
def reopenLink (p : Profile) (l : Link) : Link :=
  let l1 := { l with receiver := freshReceiver .hunt, resetDue := false, stuckDue := false }
  if l1.transmitter = .sending then startHoldoff p.holdoff l1 else l1

/-- The profile comes into force, in one event (R167, R174, R175). -/
def profileInForce (rec : LoadedRecord) (source : ProfileSource) (s : State) : State :=
  let p := rec.profile
  let s1 := compareCheck rec.check s
  let s2 := s1.setRet { s1.ret with
    profile := some p
    source := some source
    inForce := true
    profileCheck := some rec.check
    residue := 0 }
  let s3 := s2.setFe (reopenFrontEnd p s2.fe)
  let s4 := continuityBreak s3
  let s5 := s4.setRet { s4.ret with activity := p.startActivity }
  let s6 := s5.setLink (reopenLink p s5.link)
  enterNumbering (startBond s6)

/-- The PROFILE request of a waiting node (R171, R196). -/
def requestFrame : Frame := ⟨broadcast, 0x00#8, kindProfile, [0x00#8, 0x00#8]⟩

/-- AWAITING PROFILE: a request offered, the request timer started for 2 s, the buffer empty (R171). -/
def awaitProfile (s : State) : State :=
  offer requestFrame
    (s.setComm { s.comm with state := .awaitingProfile, requestTimer := some Config.requestMs, buffer := none })

/-- The bytes of a read command: 03H and the address 0000H (R168). -/
def readCommand : List Byte := [0x03#8, 0x00#8, 0x00#8]

/-- LOADING (R166, R168, R170, R171): the straps choose the source; the highest heard is 0 (R175). Until a profile comes into
force there is no profile and no source: DESIGN CHOICE, log entry 35. -/
def loadProfile (i : StartInputs) (s : State) : State :=
  let s1 := s.setComm { s.comm with state := .loading, highest := 0 }
  let s2 := s1.setRet { s1.ret with inForce := false, profile := none, source := none, activity := .dormant }
  match i.cfg1, i.cfg0 with
  | false, false =>
    let s3 := s2.setComm { s2.comm with memoryCommand := readCommand }
    match parseRecord (i.memory.take 131) with
    | some rec => profileInForce rec .externalMemory s3
    | none => s3.setComm { s3.comm with state := .failed }
  | false, true => profileInForce defaultRecord .builtIn s2
  | true, false => awaitProfile s2
  | true, true =>
    let s3 := s2.setComm { s2.comm with memoryCommand := readCommand }
    match parseRecord (i.memory.take 131) with
    | some rec => profileInForce rec .externalMemory s3
    | none => profileInForce defaultRecord .builtIn s3

/-- The segment at an index of a sharer's own record (R173, R196). -/
def segmentFrame (s : State) (i : Nat) : Frame :=
  let record := encodeRecord (prof s)
  ⟨broadcast, ownByte s, kindProfile,
    [byteOf i, byteOf (divRoundUp record.length 32), byteOf record.length] ++ (record.drop (32 * i)).take 32⟩

/-- The segments of a record. -/
def segmentCount (s : State) : Nat := divRoundUp (encodeRecord (prof s)).length 32

/-- The link asks for a segment whenever a broadcast is under way, the queue holds none of the node's segments and a
place is free; the unit supplies the one it is due to send (R97, R173). -/
def feedSegment (s : State) : State :=
  match s.comm.share with
  | some i =>
    if s.link.mode = .up ∧ s.link.queue.length < Config.queuePlaces ∧ s.link.queue.any isSegment = false then
      let s1 := s.setLink (transmitterFollows { s.link with queue := s.link.queue ++ [segmentFrame s i] })
      s1.setComm { s1.comm with share := if i + 1 < segmentCount s then some (i + 1) else none }
    else s
  | none => s

/-- The segment tests 1 to 4 of R172 on its frame. -/
def segmentOk (f : Frame) : Bool :=
  let i := u8 f.payload 0
  let count := u8 f.payload 1
  let len := u8 f.payload 2
  let data := f.payload.drop 3
  addressedByte f.src && decide (3 ≤ f.payload.length)
    && decide (1 ≤ count ∧ count ≤ 5) && decide (75 ≤ len ∧ len ≤ 131) && decide (count = divRoundUp len 32)
    && decide (i < count)
    && decide (data.length = if i + 1 = count then len - 32 * (count - 1) else 32)

/-- A segment stored in a buffer (R172). -/
def storeSegment (f : Frame) (b : AssemblyBuffer) : AssemblyBuffer :=
  { b with segments := b.segments ++ [(u8 f.payload 0, f.payload.drop 3)], stored := true }

/-- The buffer a passing segment binds when it is empty (R172). -/
def bindBuffer (f : Frame) : AssemblyBuffer :=
  ⟨f.src.toNat, u8 f.payload 1, u8 f.payload 2, [], false⟩

/-- The buffer holds the segment of an index. -/
def holdsIndex (b : AssemblyBuffer) (i : Nat) : Bool := b.segments.any (fun x => x.1 == i)

/-- The buffer after a passing segment (R172): bound, emptied by a differing count or length, or stored into. -/
def bufferAfter (f : Frame) (buffer : Option AssemblyBuffer) : Option AssemblyBuffer :=
  match buffer with
  | none => some (storeSegment f (bindBuffer f))
  | some b =>
    if b.source ≠ f.src.toNat then some b
    else if b.count ≠ u8 f.payload 1 ∨ b.length ≠ u8 f.payload 2 then none
    else if holdsIndex b (u8 f.payload 0) then some b
    else some (storeSegment f b)

/-- The bytes the buffer holds at an index. -/
def segmentAt (b : AssemblyBuffer) (i : Nat) : List Byte :=
  match b.segments.find? (fun x => x.1 == i) with
  | some x => x.2
  | none => []

/-- The buffer holds every index from 0 to the count less one (R172). -/
def bufferComplete (b : AssemblyBuffer) : Bool := (List.range b.count).all (holdsIndex b)

/-- The assembled record (R172). -/
def assembled (b : AssemblyBuffer) : List Byte := (List.range b.count).flatMap (segmentAt b)

/-- The judgement of an assembled record: the tests of R168, and the length its breakpoint count gives (R172). -/
def judgeAssembled (b : AssemblyBuffer) : Option LoadedRecord :=
  if recordLength (u8 (assembled b) 2) = b.length then parseRecord (assembled b) else none

/-- A complete buffer is judged: a valid record comes into force, an invalid one empties the buffer (R172). -/
def judgeBuffer (s : State) : State :=
  match s.comm.buffer with
  | some b =>
    if bufferComplete b then
      let s1 := s.setComm { s.comm with buffer := none }
      match judgeAssembled b with
      | some rec =>
        profileInForce ⟨asBusProfile rec.profile, rec.check⟩ .bus
          (s1.setComm { s1.comm with requestTimer := none })
      | none => s1
    else s
  | none => s

/-- A segment at the commissioning unit: disregarded outside AWAITING PROFILE (R172, R173). -/
def commTakesSegment (f : Frame) (s : State) : State :=
  if s.comm.state = .awaitingProfile ∧ segmentOk f = true then
    judgeBuffer (s.setComm { s.comm with buffer := bufferAfter f s.comm.buffer })
  else s

/-- A PROFILE request at the commissioning unit: a NUMBERED sharer starts or restarts its broadcast; a request whose index
is not 00H or whose payload is longer is discarded (R173, R196). -/
def commTakesRequest (f : Frame) (s : State) : State :=
  if f.payload = [0x00#8, 0x00#8] ∧ s.comm.numbering = some .numbered then startShare s else s

/-- The buffer at an expiry of the request timer: emptied when nothing has been stored since the previous one (R172). -/
def bufferAtExpiry (buffer : Option AssemblyBuffer) : Option AssemblyBuffer :=
  match buffer with
  | some b => if b.stored then some { b with stored := false } else none
  | none => none

end Sys2Proof.Machine
end

