-- ==== Sys2Proof/Machine/Ops.lean ====
section
/-! DEFINITION. The operations every command shares: what follows at the end of an event (the segment feed of R97, the
output pins of R41, R76, R170 to R182 and R192, the retention check value of R187), the two answers of a command,
the sampling of line bits, the taking of a frame from the FIFO (R102), the stop at leaving RUN (R188), and the
start (R186). -/

namespace Sys2Proof.Machine

/-- A command's answer. Every command of the block has a next state. -/
abbrev Answer := Host.Outcome State Fault Refusal

/-- The level of LOAD (R41): undriven outside RUN and before the profile is in force. -/
def loadLevel (s : State) : LoadPin :=
  if inRun s = true ∧ s.ret.inForce = true then
    if decide (s.pulse.state = .pulsing) = !(prof s).loadActiveLow then .high else .low
  else .undriven

/-- ALERT is asserted (R192). -/
def alertLevel (s : State) : Bool :=
  inRun s && (decide (s.comm.state = .failed) || decide (s.comm.numbering = some .conflict)
    || decide (s.comm.numbering = some .noNumber) || s.link.lineFault)

/-- CHAIN-OUT is active in a state where a chained node drives it: NUMBERED, CONFLICT and NO NUMBER (R177, R179 to R181). -/
def chainedOut (n : Option NumberingState) : Bool :=
  match n with
  | some .numbered => true
  | some .conflict => true
  | some .noNumber => true
  | some .chainWait => false
  | some .quietWait => false
  | some .claiming => false
  | none => false

/-- The level of CHAIN-OUT (R170, R176, R177, R179 to R182). -/
def chainOutLevel (s : State) : Bool :=
  if inRun s then
    match s.comm.state with
    | .loading => false
    | .awaitingProfile => false
    | .failed => s.pins.chainIn
    | .numbering => if s.comm.method = some .chained then chainedOut s.comm.numbering else s.pins.chainIn
    | .ready => if s.comm.method = some .chained then chainedOut s.comm.numbering else s.pins.chainIn
  else false

/-- BUS is driven dominant: in SENDING, at a bit 0 of the attempt (R76). -/
def busLevel (s : State) : Bool :=
  match s.link.transmitter, s.link.attempt with
  | .sending, some a => decide (a.outcome = none ∧ a.bits[a.sent]? = some false)
  | _, _ => false

/-- The output pins follow the state. -/
def drivePins (s : State) : State :=
  s.setPins { s.pins with
    chainOut := chainOutLevel s
    load := loadLevel s
    alert := alertLevel s
    busDominant := busLevel s
    scs := false }

/-- The retention check value over the retained contents (R186, R197). -/
def retentionCheck (r : Retained) : Word16 := crc (Config.retentionBytes r)

/-- The retention check value computed anew (R187); in OFF the domain is lost and nothing is computed. -/
def reseal (s : State) : State :=
  if s.supply.state = .off then s else s.setDom { s.dom with check := retentionCheck s.ret }

/-- What follows at the end of every event. -/
def settle (s : State) : State := reseal (drivePins (feedSegment s))

/-- The command's effect, with what follows at the end of the event. -/
def done (s : State) : Answer := .next (settle s)

/-- The event of the command does not occur in this state: nothing changes (log entry 3). -/
def noEvent (s : State) : Answer := .next s

/-- The command's event occurs when `p` holds. -/
def whenever (p : Bool) (s next : State) : Answer := if p then done next else noEvent s

/-- The bits the line has carried since the last line command, sampled (R77). -/
def sampled (bits : List Bool) (s : State) : State :=
  s.setLink (sampleBits s.comm.held (bitsPerSecond (prof s).bitRateCode) s.link bits)

/-- The oldest frame of the FIFO when no frame is in hand (R102). -/
def frontFrame (s : State) : Option Frame :=
  match s.fp.inHand, s.link.fifo with
  | none, c :: _ => some (frameOf c)
  | _, _ => none

/-- The frame processor takes the oldest frame: it leaves the FIFO and is in hand (R87, R102). -/
def takeInHand (s : State) : State :=
  let s1 := s.setFp { s.fp with inHand := s.link.fifo.head? }
  s1.setLink { s1.link with fifo := s1.link.fifo.tail }

/-- The handing-on is done: the frame is no longer in hand (R102). -/
def putDown (s : State) : State := s.setFp { s.fp with inHand := none }

/-- The step of a frame command: the oldest frame, if it is one of this row's, is taken, judged (R103) and handed on. -/
def frameStep (row : Frame → Bool) (handOn : Frame → State → State) (s : State) : Answer :=
  match frontFrame s with
  | some f =>
    if inRun s = true ∧ row f = true then
      done (putDown (if wellFormed f then handOn f (takeInHand s) else takeInHand s))
    else noEvent s
  | none => noEvent s

/-- Every block stops when the supply monitor leaves RUN (R188, R16, R49, R100, R102, R110, R136, R158, R182; the values of
items that no rule names there are log entry 11). The retention domain and the pin number are kept, and so is the engine
of the pulse in IDLE (R49). -/
def leaveRun (s : State) : State :=
  { s with
    fe := stoppedFrontEnd
    rest := stoppedRest
    pulse := abandonPulse s.pulse
    link := stoppedLink
    fp := stoppedFrames
    table := ⟨[], s.table.pin⟩
    bond := stoppedBond
    comm := stoppedCommissioning }

/-- Set the supply state and the pending start kind. -/
def setSupplyState (st : SupplyState) (k : StartKind) (s : State) : State := s.setSupply ⟨st, k⟩

/-- The retention check (R186): the check words, the two copies of the seconds counter, and the CRC. -/
def retentionPasses (d : Domain) : Bool :=
  decide (d.word1 = Config.checkWord1) && decide (d.word2 = Config.checkWord2) && decide (d.seconds = d.secondsCopy)
    && decide (retentionCheck d.ret = d.check)

/-- The kind of start decided in START (R186). -/
def decideStart (k : StartKind) (d : Domain) : StartKind :=
  match k with
  | .cold => .cold
  | .warm => if retentionPasses d then .warm else .cold
  | .restart => if retentionPasses d then .restart else .cold

/-- What the retention domain reads at START (R187). -/
def domainAtStart (i : StartInputs) (s : State) : State := s.setDom (i.upset.getD s.dom)

/-- A kept PROPOSING or HELD becomes FREE (R164). -/
def keptBondState (b : BondState) : BondState :=
  match b with
  | .proposing => .free
  | .held => .free
  | .unready => .unready
  | .free => .free
  | .bonded => .bonded
  | .bondedSilent => .bondedSilent
  | .rejected => .rejected

/-- The bond engine and the pin at a start (R137, R164): a kept bond keeps its partner, with the bond class set from
the own class. -/
def restoreBond (s : State) : State :=
  let b := keptBondState s.ret.bondState
  let n := if bondStands b then s.ret.engaged else none
  let s1 := setBondState b n s
  let s2 := s1.setTable ⟨[], n⟩
  s2.setBond { stoppedBond with bondClass := if bondStands b then s2.grade.gradeClass else none }

/-- The front end at the entry to RUN: the first window opens and the initial readings are taken (R6, R9, R11). -/
def openFrontEnd (i : StartInputs) (s : State) : State :=
  let mv := readVoltage i.vsense
  s.setFe { stoppedFrontEnd with
    window := some (windowMs (prof s).gateCode)
    lastVoltage := some ⟨mv, roundHalfUp mv (prof s).series⟩
    lastTemperature := some (readTemperature i.tsense) }

/-- The blocks at the entry to RUN, for every kind of start: receiver in HUNT, link mode LISTEN, everything else that is
not retained at the values of its chapter (R37, R51, R84, R98, R100, R137, R164). The highest heard is 0 at every start, at a
warm return with a number held too, where no rule gives it: DESIGN CHOICE, log entry 36. -/
def enterRun (s : State) : State :=
  restoreBond
    { s with
      supply := ⟨.run, s.supply.kind⟩
      rest := stoppedRest
      pulse := idlePulse
      link := { stoppedLink with receiver := freshReceiver .hunt }
      fp := stoppedFrames
      comm := stoppedCommissioning }

/-- The commissioning unit after a warm return with the profile in force (R182): the number held and the link UP, or
NUMBERING. -/
def resumeCommissioning (s : State) : State :=
  match s.ret.number with
  | some nn =>
    linkUp (s.setComm { s.comm with
      state := .ready
      numbering := some .numbered
      method := some nn.method
      held := some nn.number })
  | none => enterNumbering s

/-- A start, from its kind to RUN (R186): the retained items, the blocks, the first readings, and LOADING or, at a warm
return with the profile in force, the return to work (R182). A window opened under the holding values is opened
anew when the profile comes into force. -/
def startAs (k : StartKind) (i : StartInputs) (s : State) : State :=
  match k with
  | .cold =>
    loadProfile i (openFrontEnd i (enterRun (s.setDom coldDomain)))
  | .restart =>
    let s1 := enterRun (continuityBreak s)
    loadProfile i (openFrontEnd i (s1.setRet { s1.ret with inForce := false }))
  | .warm =>
    if s.ret.inForce then resumeCommissioning (startBond (openFrontEnd i (enterRun s)))
    else loadProfile i (openFrontEnd i (enterRun s))

/-- START is left within the event that enters it (R184, R186). -/
def passStart (i : StartInputs) (s : State) : State :=
  let s1 := domainAtStart i s
  startAs (decideStart s1.supply.kind s1.dom) i s1

end Sys2Proof.Machine
end

