-- ==== Sys2Proof/Machine/FrameCommands.lean ====
section
/-! DEFINITION. The frame commands whose owners are not the bond engine: UNKNOWN_KIND, ENUM, QUERY, GRADE, and the two
PROFILE rows. Each takes the oldest frame of the FIFO when that frame is of its row (R102). -/

namespace Sys2Proof.Machine

/-- The row of a kind. -/
def ofKind (k : Byte) (f : Frame) : Bool := f.kind == k

/-- The row of the kind codes that are not in the table (R103). -/
def ofUnknownKind (f : Frame) : Bool := !knownKind f.kind

/-- The row of PROFILE requests (R109, R196). -/
def ofRequest (f : Frame) : Bool := isRequest f

/-- The row of the other PROFILE frames: segments, and payloads too short to be either form, which are discarded as
segments are (R172; log entry 25). -/
def ofSegment (f : Frame) : Bool := f.kind == kindProfile && !isRequest f

/-- In FAILED every frame is discarded (R104, R170). -/
def unlessFailed (s next : State) : State := if s.comm.state = .failed then s else next

/-- Before the profile is in force these kinds are discarded (R104). -/
def onceInForce (s next : State) : State := if s.ret.inForce then next else s

/-- UNKNOWN_KIND: taken and ignored (R103). -/
def execUnknownKind (s : State) : Answer := frameStep ofUnknownKind (fun _ s => s) s

/-- An ENUM handed on (R104, R105). -/
def handEnum (f : Frame) (s : State) : State := unlessFailed s (commTakesEnum (u8 f.payload 0) s)

/-- ENUM (R105, R175, R177, R178). -/
def execEnum (s : State) : Answer := frameStep (ofKind kindEnum) handEnum s

/-- The GRADE reply to a station (R114, R115). -/
def gradeFrame (s : State) (station : Nat) : Frame := toPeer s station kindGrade (gradePayload s)

/-- A QUERY handed on: answered at once with the state as it stands (R104, R114). -/
def handQuery (f : Frame) (s : State) : State := onceInForce s (offer (gradeFrame s f.src.toNat) s)

/-- QUERY (R114, R115). -/
def execQuery (s : State) : Answer := frameStep (ofKind kindQuery) handQuery s

/-- GRADE: taken and ignored (R104, R116). -/
def execGrade (s : State) : Answer := frameStep (ofKind kindGrade) (fun _ s => s) s

/-- A PROFILE request handed on (R104, R173). -/
def handRequest (f : Frame) (s : State) : State := unlessFailed s (commTakesRequest f s)

/-- PROFILE_REQUEST (R109, R173, R196). -/
def execProfileRequest (s : State) : Answer := frameStep ofRequest handRequest s

/-- A PROFILE segment handed on (R104, R172). -/
def handSegment (f : Frame) (s : State) : State := unlessFailed s (commTakesSegment f s)

/-- PROFILE_SEGMENT (R109, R172). -/
def execProfileSegment (s : State) : Answer := frameStep ofSegment handSegment s

end Sys2Proof.Machine
end

