-- ==== Sys2Proof/Machine/BondCommands.lean ====
section
/-! DEFINITION. The frames the bond engine takes: ANNOUNCE, and the five of the handshake. Before the profile is in
force they do not reach it (R104). -/

namespace Sys2Proof.Machine

/-- X is the partner: a bond stands and X is the engaged number (R153). -/
def isPartner (x : Nat) (s : State) : Bool := bondStands s.ret.bondState && decide (s.ret.engaged = some x)

/-- Any frame from the partner restarts the partner timer, and returns BONDED-SILENT to BONDED (R153). -/
def partnerHeard (x : Nat) (s : State) : State :=
  if isPartner x s then
    (setBondState .bonded s.ret.engaged s).setBond { s.bond with partnerTimer := some (partnerRun s) }
  else s

/-! ANNOUNCE. -/

/-- An ANNOUNCE names this node as partner in a state that keeps the bond (R154). -/
def consistent (a : AnnounceFields) (s : State) : Bool :=
  (match a.bondState with
    | .held => true
    | .bonded => true
    | .bondedSilent => true
    | .unready => false
    | .free => false
    | .proposing => false
    | .rejected => false)
  && a.partner.isSome && decide (a.partner = s.comm.held)

/-- The partner report of an ANNOUNCE (R152). -/
def takeReport (a : AnnounceFields) (s : State) : State :=
  s.setBond { s.bond with report := some ⟨a.voltage, s.seconds⟩ }

/-- The inconsistency count after an ANNOUNCE: 0, or one more, at most 2 (R154). -/
def countAfter (a : AnnounceFields) (s : State) : Nat := if consistent a s then 0 else min 2 (s.bond.inconsistency + 1)

/-- The two examinations of a partner's ANNOUNCE (R154). -/
def examineAnnounce (a : AnnounceFields) (s : State) : State :=
  if a.gradeClass ≠ s.bond.bondClass ∧ s.ret.freeze = false then releasePartner .classChange (freeOrRejected s) s
  else
    let s1 := s.setBond { s.bond with inconsistency := countAfter a s }
    if s1.bond.inconsistency = 2 ∧ s1.ret.freeze = false then releasePartner .inconsistent .free s1 else s1

/-- An ANNOUNCE at the bond engine: only the partner's matters; timer, report, examination, PAIR-EN test (R153, R154,
R157). -/
def bondTakesAnnounce (a : AnnounceFields) (s : State) : State :=
  if isPartner a.source s then
    let s1 := examineAnnounce a (takeReport a (partnerHeard a.source s))
    pairTest (lastMillivolts s1) s1
  else s

/-- An ANNOUNCE at the peer table, which takes it only in UP (R104, R123 to R125). -/
def tableTakesAnnounce (a : AnnounceFields) (s : State) : State :=
  if s.link.mode = .up then s.setTable (hearAnnounce (prof s) s.grade s.seconds a s.table) else s

/-- An ANNOUNCE handed on: the commissioning unit, and once the profile is in force the peer table and the bond engine
(R104; the order among them is log entry 14). -/
def handAnnounce (f : Frame) (s : State) : State :=
  unlessFailed s
    (let s1 := commTakesAnnounce f.src.toNat s
     onceInForce s1 (bondTakesAnnounce (readAnnounce f) (tableTakesAnnounce (readAnnounce f) s1)))

/-- ANNOUNCE (R123 to R125, R153, R154, R175, R178). -/
def execAnnounce (s : State) : Answer := frameStep (ofKind kindAnnounce) handAnnounce s

/-! PROPOSE. -/

/-- The score of a proposer is within the acceptance margin of the head of the candidate order, or there is no
candidate (R144). -/
def withinMargin (e : PeerEntry) (s : State) : Bool :=
  match candidates (prof s) s.grade s.table with
  | [] => true
  | h :: _ => decide (e.score.getD 0 ≤ h.score.getD 0 + (prof s).acceptanceMargin)

/-- The acceptance rule: the first test that fails gives the reason (R144). -/
def acceptanceFailure (x epoch : Nat) (s : State) : Option DeclineReason :=
  match entryOf s.table x with
  | none => some .unknown
  | some e =>
    if e.epoch ≠ epoch then some .stale
    else if eligible (prof s) s.grade e = false then some .ineligible
    else if withinMargin e s = false then some .rank
    else none

/-- A proposal judged in FREE: ACCEPT and HELD, or the DECLINE (R144). -/
def judgeProposal (x epoch : Nat) (s : State) : State :=
  match acceptanceFailure x epoch s with
  | some r => offer (declineFrame s x r) s
  | none => enterHeld x (offer (acceptFrame s x) s)

/-- This node has the lower number of the two (R146). -/
def lowerThan (x : Nat) (s : State) : Bool :=
  match s.comm.held with
  | some n => decide (n < x)
  | none => false

/-- Crossing proposals: the lower-numbered node accepts, the higher ignores. The ACCEPT is offered before the own
PROPOSE is withdrawn (R146; log entry 14). -/
def crossProposal (x : Nat) (s : State) : State :=
  if lowerThan x s then enterHeld x (withdrawPropose (offer (acceptFrame s x) s)) else s

/-- A PROPOSE from X at the bond engine: the first row of R145 that applies, else R144. -/
def bondTakesPropose (x epoch : Nat) (s : State) : State :=
  match s.ret.bondState with
  | .bonded => offer (declineFrame s x .bonded) s
  | .bondedSilent => offer (declineFrame s x .bonded) s
  | .unready => if s.ret.freeze then offer (declineFrame s x .frozen) s else offer (declineFrame s x .notReady) s
  | .rejected => if s.ret.freeze then offer (declineFrame s x .frozen) s else offer (declineFrame s x .ineligible) s
  | .held => if s.ret.freeze then offer (declineFrame s x .frozen) s else offer (declineFrame s x .busy) s
  | .proposing =>
    if s.ret.freeze then offer (declineFrame s x .frozen) s
    else if s.ret.engaged = some x then crossProposal x s
    else offer (declineFrame s x .busy) s
  | .free => if s.ret.freeze then offer (declineFrame s x .frozen) s else judgeProposal x epoch s

/-- A PROPOSE handed on (R104, R153). -/
def handPropose (f : Frame) (s : State) : State :=
  onceInForce s (bondTakesPropose f.src.toNat (u8 f.payload 2) (partnerHeard f.src.toNat s))

/-- PROPOSE (R144 to R146). -/
def execPropose (s : State) : Answer := frameStep (ofKind kindPropose) handPropose s

/-! ACCEPT and CONFIRM. -/

/-- The engine stands in a state with X as its engaged peer. -/
def engagedWith (b : BondState) (x : Nat) (s : State) : Bool := decide (s.ret.bondState = b ∧ s.ret.engaged = some x)

/-- RELEASE LATE to X, the state unchanged (R147, R150). -/
def answerLate (x : Nat) (s : State) : State := offer (releaseFrame s x .late) s

/-- An ACCEPT from X at the bond engine (R147). -/
def bondTakesAccept (x : Nat) (s : State) : State :=
  if engagedWith .proposing x s then enterBonded x (offer (confirmFrame s x) s)
  else if isPartner x s then s
  else answerLate x s

/-- An ACCEPT handed on (R104, R153). -/
def handAccept (f : Frame) (s : State) : State :=
  onceInForce s (bondTakesAccept f.src.toNat (partnerHeard f.src.toNat s))

/-- ACCEPT (R147). -/
def execAccept (s : State) : Answer := frameStep (ofKind kindAccept) handAccept s

/-- A CONFIRM from X at the bond engine (R150). -/
def bondTakesConfirm (x : Nat) (s : State) : State :=
  if engagedWith .held x s then enterBonded x s
  else if isPartner x s then s
  else answerLate x s

/-- A CONFIRM handed on (R104, R153). -/
def handConfirm (f : Frame) (s : State) : State :=
  onceInForce s (bondTakesConfirm f.src.toNat (partnerHeard f.src.toNat s))

/-- CONFIRM (R150). -/
def execConfirm (s : State) : Answer := frameStep (ofKind kindConfirm) handConfirm s

/-! DECLINE and RELEASE. -/

/-- A DECLINE from X at the bond engine: from the target in PROPOSING it marks, unpins and frees; elsewhere it is
ignored (R148). -/
def bondTakesDecline (x : Nat) (r : DeclineReason) (s : State) : State :=
  if engagedWith .proposing x s then disengageMarked x r s else s

/-- A DECLINE handed on (R104, R148, R153). -/
def handDecline (f : Frame) (s : State) : State :=
  onceInForce s
    (bondTakesDecline f.src.toNat ((declineOfCode (u8 f.payload 0)).getD .busy) (partnerHeard f.src.toNat s))

/-- DECLINE (R148). -/
def execDecline (s : State) : Answer := frameStep (ofKind kindDecline) handDecline s

/-- A RELEASE from X at the bond engine: a DECLINE BUSY from the target (R148), the end of a hold (R151), the end of a
bond unless the freeze flag holds it against a reason other than LATE (R155); ignored elsewhere. -/
def bondTakesRelease (x : Nat) (late : Bool) (s : State) : State :=
  if engagedWith .proposing x s then disengageMarked x .busy s
  else if engagedWith .held x s then disengage .free s
  else if isPartner x s = true ∧ (s.ret.freeze = false ∨ late = true) then disengage .free s
  else s

/-- The reason of a RELEASE is LATE. -/
def reasonIsLate (f : Frame) : Bool := decide (releaseOfCode (u8 f.payload 0) = some .late)

/-- A RELEASE handed on (R104, R153). -/
def handRelease (f : Frame) (s : State) : State :=
  onceInForce s (bondTakesRelease f.src.toNat (reasonIsLate f) (partnerHeard f.src.toNat s))

/-- RELEASE (R148, R151, R155). -/
def execRelease (s : State) : Answer := frameStep (ofKind kindRelease) handRelease s

end Sys2Proof.Machine
end

