-- ==== Sys2Proof/Machine/CampaignCommands.lean ====
section
/-! DEFINITION. The CAMPAIGN commands: the row of an action (R118, R119), the repeat test (R117), and the four actions
(R21, R159, R72 and R73, R160). -/

namespace Sys2Proof.Machine

/-- The action code a CAMPAIGN carries, none for an unknown one or a missing payload (R118, R119; log entry 15). -/
def campaignAction (f : Frame) : Option CampaignAction :=
  match f.payload with
  | a :: _ => actionOfCode a.toNat
  | [] => none

/-- The row of a CAMPAIGN by its action. -/
def ofAction (a : Option CampaignAction) (f : Frame) : Bool := f.kind == kindCampaign && decide (campaignAction f = a)

/-- A CAMPAIGN handed on once the profile is in force: a repeat is ignored, else the number is stored and the action
dispatched (R104, R117). -/
def handCampaign (act : State → State) (f : Frame) (s : State) : State :=
  onceInForce s
    (if s.ret.campaign = some (u8 f.payload 1) then s
     else act (s.setRet { s.ret with campaign := some (u8 f.payload 1) }))

/-- START at the rest detector: DORMANT becomes ACTIVE, and the bond engine tests its readiness (R21, R140). -/
def takeStart (s : State) : State :=
  match s.ret.activity with
  | .dormant => readinessTest (s.setRet { s.ret with activity := .active })
  | .active => s

/-- CAMPAIGN_START (R21, R117). -/
def execCampaignStart (s : State) : Answer := frameStep (ofAction (some .start)) (handCampaign takeStart) s

/-- A handshake in flight is cut short without a mark (R159, R160). The peer is unpinned at a FREEZE too, as R134 and R159 say,
where the table of R137 has the pin number unchanged: log entry 31. -/
def cutHandshake (s : State) : State :=
  match s.ret.bondState with
  | .proposing => disengage .free s
  | .held => disengage .free s
  | .unready => s
  | .free => s
  | .bonded => s
  | .bondedSilent => s
  | .rejected => s

/-- FREEZE at the bond engine: the flag is set, a handshake in flight is cut short, a bond stands (R159). -/
def takeFreeze (s : State) : State := cutHandshake (s.setRet { s.ret with freeze := true })

/-- CAMPAIGN_FREEZE (R117, R159). -/
def execCampaignFreeze (s : State) : Answer := frameStep (ofAction (some .freeze)) (handCampaign takeFreeze) s

/-- A REGRADE carried out, at the bond engine: UNREADY from every state, a partner released with RELEASE REGRADE (R161).
The epoch rise that comes with it has already brought the engine there (R141). -/
def bondTakesRegrade (s : State) : State :=
  match s.ret.bondState with
  | .unready => s
  | .free => disengage .unready s
  | .rejected => disengage .unready s
  | .proposing => disengage .unready s
  | .held => disengage .unready s
  | .bonded => releasePartner .regrade .unready s
  | .bondedSilent => releasePartner .regrade .unready s

/-- A REGRADE carried out: the emptied record and its epoch rise, then the three blocks (R73, R36, R50, R161). -/
def carryOutRegrade (s : State) : State :=
  let s1 := tellEpochRise s.grade.gradeClass (s.setRet { s.ret with grade := regradedRecord s.grade })
  bondTakesRegrade (clearPulse (continuityBreak s1))

/-- REGRADE at the grade unit: vetoed while the freeze flag is set (R72), else carried out (R73). -/
def takeRegrade (s : State) : State := if s.ret.freeze then s else carryOutRegrade s

/-- CAMPAIGN_REGRADE (R72, R73, R117). -/
def execCampaignRegrade (s : State) : Answer := frameStep (ofAction (some .regrade)) (handCampaign takeRegrade) s

/-- RELEASE ALL at the bond engine: refused while frozen, else a bond is released and a handshake cut short (R160). -/
def takeReleaseAll (s : State) : State :=
  if s.ret.freeze then s
  else if s.ret.bondState = .bonded then releasePartner .campaign .free s
  else cutHandshake s

/-- CAMPAIGN_RELEASE_ALL (R117, R160). -/
def execCampaignReleaseAll (s : State) : Answer :=
  frameStep (ofAction (some .releaseAll)) (handCampaign takeReleaseAll) s

/-- CAMPAIGN_UNKNOWN_ACTION: the number is stored, the action ignored (R119). -/
def execCampaignUnknownAction (s : State) : Answer := frameStep (ofAction none) (handCampaign (fun s => s)) s

end Sys2Proof.Machine
end

