-- ==== Sys2Proof/Machine/LineCommands.lean ====
section
/-! DEFINITION. The line commands. Each carries the bits the line has carried since the last line command, up to the one at
which its event occurs; the bits are sampled first, then the event, if the line has shown it, has its effect. -/

namespace Sys2Proof.Machine

/-- A line command: the bits are sampled, and the effect follows where the line has shown the event (log entry 6). -/
def lineStep (bits : List Bool) (shown : State → Bool) (effect : State → State) (s : State) : Answer :=
  whenever (inRun s) s (if shown (sampled bits s) then effect (sampled bits s) else sampled bits s)

/-- The transmitter may begin: WAIT, a frame at the head, the line idle (R89). -/
def mayBegin (s : State) : Bool :=
  decide (s.link.transmitter = .wait) && !s.link.queue.isEmpty && lineIdle s.link.receiver

/-- The frame of an attempt: an ANNOUNCE takes its content and its source now (R89, R112). -/
def attemptFrame (s : State) (f : Frame) : Frame :=
  if f.kind == kindAnnounce then { f with src := ownByte s, payload := announcePayload s } else f

/-- The attempt of a frame: its bits with the check of the content as it stands (R80, R83). -/
def attemptOf (f : Frame) : Attempt := ⟨f, lineBits (frameContent f), 0, none⟩

/-- The attempt with the head frame begins (R89); the snapshot of an ANNOUNCE clears the two marks (R112). -/
def beginAttempt (s : State) : State :=
  match s.link.queue with
  | f :: _ =>
    let s1 := s.setLink { s.link with transmitter := .sending, attempt := some (attemptOf (attemptFrame s f)) }
    if f.kind == kindAnnounce then clearMarks s1 else s1
  | [] => s

/-- ATTEMPT_BEGIN (R89). -/
def execAttemptBegin (bits : List Bool) (s : State) : Answer := lineStep bits mayBegin beginAttempt s

/-- The attempt's read-back has shown an outcome. -/
def outcomeIs (o : AttemptOutcome) (s : State) : Bool :=
  decide (s.link.transmitter = .sending)
    && (match s.link.attempt with
        | some a => a.outcome == some o
        | none => false)

/-- Arbitration is lost: no further bits, the frame stays at the head, HOLDOFF (R90). -/
def loseAttempt (s : State) : State := s.setLink (startHoldoff (prof s).holdoff s.link)

/-- ARBITRATION_LOSS (R90). -/
def execArbitrationLoss (bits : List Bool) (s : State) : Answer := lineStep bits (outcomeIs .lost) loseAttempt s

/-- The head leaves the queue. -/
def dropHead (l : Link) : Link := { l with queue := l.queue.tail }

/-- A line fault of the transmitter: the frame is removed and reported dropped, the flag set, HOLDOFF (R91). -/
def faultAttempt (s : State) : State :=
  let s1 := s.setLink (startHoldoff (prof s).holdoff { dropHead s.link with lineFault := true })
  match s.link.queue with
  | f :: _ => reportDropped f s1
  | [] => s1

/-- TRANSMIT_LINE_FAULT (R91). -/
def execTransmitLineFault (bits : List Bool) (s : State) : Answer := lineStep bits (outcomeIs .lineFault) faultAttempt s

/-- A completed attempt: the frame is removed and reported sent, the line fault flag cleared, HOLDOFF (R92). -/
def completeAttempt (s : State) : State :=
  let s1 := s.setLink (startHoldoff (prof s).holdoff { dropHead s.link with lineFault := false })
  match s.link.attempt with
  | some a => reportSent a.frame s1
  | none => s1

/-- ATTEMPT_COMPLETE (R92). -/
def execAttemptComplete (bits : List Bool) (s : State) : Answer := lineStep bits (outcomeIs .complete) completeAttempt s

/-- STUCK_DOMINANT_LINE: the line fault flag is set, once for the run (R79). -/
def execStuckDominantLine (bits : List Bool) (s : State) : Answer :=
  lineStep bits (fun s => s.link.stuckDue) (fun s => s.setLink { s.link with lineFault := true, stuckDue := false }) s

/-- The link's own part of a bus reset (R78). -/
def resetLink (l : Link) : Link :=
  { l with
    receiver := huntAgain l.receiver
    resetDue := false
    transmitter := .idle
    attempt := none
    holdoff := none
    fifo := []
    queue := [] }

/-- A bus reset at the bond engine: PROPOSING and HELD end in FREE without a mark, a bond stands (R162). -/
def resetBond (s : State) : State :=
  match s.ret.bondState with
  | .proposing => disengage .free s
  | .held => disengage .free s
  | .unready => s
  | .free => s
  | .bonded => s
  | .bondedSilent => s
  | .rejected => s

/-- The effect of a bus reset: the link, the peer table (R135), the bond engine (R162), and the reports of the frames
removed from the queue (R78). -/
def takeBusReset (s : State) : State :=
  let s1 := s.setLink (resetLink s.link)
  let s2 := s1.setTable { s1.table with entries := [] }
  s.link.queue.foldl (fun t f => reportDropped f t) (resetBond s2)

/-- BUS_RESET (R78). -/
def execBusReset (bits : List Bool) (s : State) : Answer := lineStep bits (fun s => s.link.resetDue) takeBusReset s

/-- RECEIVE_ABORT: the receiver has aborted at the last of the bits and is in HUNT; nothing else follows (R81). -/
def execReceiveAbort (bits : List Bool) (s : State) : Answer := lineStep bits (fun _ => true) (fun s => s) s

/-- OPENING_DELIMITER: the receiver has entered RECEIVING at the last of the bits (R84). -/
def execOpeningDelimiter (bits : List Bool) (s : State) : Answer := lineStep bits (fun _ => true) (fun s => s) s

/-- Bits closed as content are a good frame: 5…45 whole bytes whose check holds (R82, R83). -/
def goodContent (bits : List Bool) : Option (List Byte) :=
  if bits.length < 40 ∨ bits.length % 8 ≠ 0 ∨ 360 < bits.length then none
  else
    let content := bitsBytes (bits.length / 8) bits
    if crc content = 0#16 then some content else none

/-- The source test of R86: 255 is discarded, and 0 but for ENUM and PROFILE. -/
def sourcePasses (f : Frame) : Bool :=
  f.src != 0xFF#8 && (f.src != 0x00#8 || f.kind == kindEnum || f.kind == kindProfile)

/-- A good frame is judged: own-frame suppression, number conflict, source, FIFO (R86). -/
def judgeFrame (own : Bool) (content : List Byte) (s : State) : State :=
  if own then s
  else if s.comm.held = some (frameOf content).src.toNat then numberConflict s
  else if sourcePasses (frameOf content) then s.setLink (offerFifo s.link content)
  else s

/-- The oldest closed frame is judged; a short, broken or bad one is discarded without a flag (R82, R83). -/
def judgeClosed (s : State) : State :=
  match s.link.closed with
  | c :: rest =>
    let s1 := s.setLink { s.link with closed := rest }
    match goodContent c.content with
    | some content => judgeFrame c.own content s1
    | none => s1
  | [] => s

/-- FRAME_RECEIVED (R82, R83, R86). -/
def execFrameReceived (bits : List Bool) (s : State) : Answer :=
  lineStep bits (fun s => !s.link.closed.isEmpty) judgeClosed s

end Sys2Proof.Machine
end

