-- ==== Sys2Proof/Machine/Measurement.lean ====
section
/-! DEFINITION. The measurement commands: CHARGE_PULSE, WINDOW_CLOSE, SECONDS_COUNTER_INCREMENT. -/

namespace Sys2Proof.Machine

/-- One count into the open window, in its direction (R1, R7). -/
def countPulse (dir : Direction) (fe : FrontEnd) : FrontEnd :=
  match dir with
  | .chg => { fe with chg := fe.chg + 1 }
  | .dsg => { fe with dsg := fe.dsg + 1 }

/-- The residue a pulse brings about before a quantum is delivered (R2). -/
def residueAfter (dir : Direction) (r : Int) : Int :=
  match dir with
  | .chg => r + 1
  | .dsg => r - 1

/-- The quantum a residue delivers: +1 at +N, −1 at −N, else none (R2). -/
def quantumOf (n : Nat) (r : Int) : Int := if r = n then 1 else if r = -n then -1 else 0

/-- The charge counter after a quantum; a quantum past a limit is discarded (R4, R5). -/
def counterAfter (c q : Int) : Int :=
  if Config.chargeMax < c + q ∨ c + q < Config.chargeMin then c else c + q

/-- A quantum raises a break when it brings the counter to a limit or is discarded there (R5). -/
def quantumBreaks (c q : Int) : Bool :=
  q != 0 && (decide (Config.chargeMax ≤ c + q ∧ 0 < q) || decide (c + q ≤ Config.chargeMin ∧ q < 0))

/-- A pulse at the charge divider and the charge counter (R2, R4, R5). -/
def dividePulse (dir : Direction) (s : State) : State :=
  let r := residueAfter dir s.ret.residue
  let q := quantumOf (prof s).calibration r
  let s1 := s.setRet { s.ret with residue := if q = 0 then r else 0, charge := counterAfter s.ret.charge q }
  if quantumBreaks s.ret.charge q then continuityBreak s1 else s1

/-- CHARGE_PULSE: taken in RUN, ignored elsewhere (R1). A node in FAILED counts too, under the holding values (R167), which moves
its retained residue and charge counter, where R170 says that the retained contents are not changed in FAILED: DEDUCED, log
entry 37. -/
def execChargePulse (dir : Direction) (s : State) : Answer :=
  whenever (inRun s) s (dividePulse dir (s.setFe (countPulse dir s.fe)))

/-- The current of a closed window, mA (R8). -/
def windowCurrent (p : Profile) (chg dsg : Nat) : Int :=
  clamp (-Config.currentMax) Config.currentMax
    (roundHalfAway (((chg : Int) - dsg) * 3600000) (windowMs p.gateCode * p.calibration))

/-- The window fails the integrity check (R13). -/
def windowFaulted (p : Profile) (chg dsg : Nat) : Bool := decide (tolerancePulses p.toleranceCode < min chg dsg)

/-- The sample record of the open window, closed now (R12). -/
def closeRecord (vsense : Int) (s : State) : SampleRecord :=
  let mv := readVoltage vsense
  { seconds := s.seconds
    chg := s.fe.chg
    dsg := s.fe.dsg
    current := windowCurrent (prof s) s.fe.chg s.fe.dsg
    voltage := mv
    cell := roundHalfUp mv (prof s).series
    faulted := windowFaulted (prof s) s.fe.chg s.fe.dsg }

/-- The front end at a window close: the next window, the latched samples, the integrity marks (R6, R9, R12, R13, R14). -/
def closeWindow (rec : SampleRecord) (s : State) : State :=
  s.setFe { s.fe with
    window := some (windowMs (prof s).gateCode)
    chg := 0
    dsg := 0
    lastSample := some rec
    lastVoltage := some ⟨rec.voltage, rec.cell⟩
    integrityFlag := s.fe.integrityFlag || rec.faulted
    newFault := s.fe.newFault || rec.faulted }

/-- The record at its three receivers. The manual gives no order among them (R12); here the rest detector, the pulse
engine, then the bond engine's PAIR-EN test with the record's voltage (R157; log entry 14). -/
def deliverRecord (rec : SampleRecord) (s : State) : State :=
  pairTest (some rec.voltage) (pulseTakesRecord rec (restTakesRecord rec s))

/-- WINDOW_CLOSE: the gate window timer runs in RUN only (R6, R16). -/
def execWindowClose (vsense : Int) (s : State) : Answer :=
  whenever (inRun s && s.fe.window.isSome) s
    (deliverRecord (closeRecord vsense s) (closeWindow (closeRecord vsense s) s))

/-- The seconds counter counts in RUN, HOLD and RESET (R189). -/
def secondsCount (st : SupplyState) : Bool :=
  match st with
  | .run => true
  | .hold => true
  | .reset => true
  | .off => false
  | .start => false

/-- One more second, stopped at the last value (R189). -/
def nextSecond (n : Nat) : Nat := if n < Config.secondsMax then n + 1 else n

/-- A temperature sample at the front end and at the rest detector, where it may end CAPTURE PENDING (R11, R25). -/
def temperatureSample (tsense : Int) (s : State) : State :=
  let t := readTemperature tsense
  let s1 := s.setFe { s.fe with lastTemperature := some t }
  if s1.rest.state = .capturePending ∧ s1.ret.activity = .active ∧ inCaptureWindow (prof s1) t = true then capture s1
  else s1

/-- SECONDS_COUNTER_INCREMENT (R189): both copies of the counter advance, and RUN brings a temperature sample (R11). With the
counter stopped at its last value the second still brings the sample: DESIGN CHOICE, log entry 30. The sample comes within the
increment, so an expiry of the rest or the long-rest timer at the same increment, a command of its own, finds the new
sample: DESIGN CHOICE, log entry 32. The retained count advances in FAILED too, as R189 says of RUN, against the letter of
R170: DEDUCED, log entry 37. -/
def execSecondsCounterIncrement (tsense : Int) (s : State) : Answer :=
  let s1 := s.setDom { s.dom with seconds := nextSecond s.dom.seconds, secondsCopy := nextSecond s.dom.secondsCopy }
  whenever (secondsCount s.supply.state) s (if inRun s then temperatureSample tsense s1 else s1)

end Sys2Proof.Machine
end

