-- ==== Sys2Proof/Machine/PeerCommands.lean ====
section
/-! DEFINITION. The peer table's commands on the seconds counter: PEER_AGE_REMOVAL, DECLINE_MARK_EXPIRY. -/

namespace Sys2Proof.Machine

/-- The entry of a number has aged and is not pinned (R131). -/
def ageDue (n : Nat) (s : State) : Bool :=
  match entryOf s.table n with
  | some e => aged (prof s) s.seconds e && s.table.pin != some n
  | none => false

/-- PEER_AGE_REMOVAL: the entry leaves with its decline mark and the order closes up (R131). -/
def execPeerAgeRemoval (number : Nat) (s : State) : Answer :=
  whenever (inRun s && ageDue number s) s
    (s.setTable { s.table with entries := withoutEntry s.table.entries number })

/-- The entry of a number carries a mark whose expiry the counter has reached (R133). -/
def markDue (n : Nat) (s : State) : Bool :=
  match entryOf s.table n with
  | some e =>
    (match e.mark with
      | some m => decide (m.expiry ≤ s.seconds)
      | none => false)
  | none => false

/-- DECLINE_MARK_EXPIRY (R133). -/
def execDeclineMarkExpiry (number : Nat) (s : State) : Answer :=
  whenever (inRun s && markDue number s) s
    (s.setTable { s.table with entries := s.table.entries.map (fun e =>
        if e.number = number then endMark (prof s) s.seconds e else e) })

end Sys2Proof.Machine
end

