-- ==== Sys2Proof/Machine/RestCommands.lean ====
section
/-! DEFINITION. The rest detector's commands: REST_TIMER_EXPIRY, LONG_REST_EXPIRY, REMOVAL_REQUEST. -/

namespace Sys2Proof.Machine

/-- A timer kept on the seconds counter is due: the counter has reached its expiry (R31). -/
def timerDue (t : Option Nat) (now : Nat) : Bool :=
  match t with
  | some e => decide (e ≤ now)
  | none => false

/-- The last temperature sample lies in the capture window (R24). -/
def temperatureIn (s : State) : Bool :=
  match s.fe.lastTemperature with
  | some t => inCaptureWindow (prof s) t
  | none => false

/-- The rest timer expires: in SETTLING a capture or CAPTURE PENDING (R24), in POST-PULSE SETTLING the entry to RESTED
(R28). The timer is stopped. -/
def restTimerEnds (s : State) : State :=
  let s1 := s.setRest { s.rest with restTimer := none }
  match s1.rest.state with
  | .settling => if temperatureIn s1 then capture s1 else s1.setRest { s1.rest with state := .capturePending }
  | .postPulseSettling => enterRested s1
  | .moving => s1
  | .capturePending => s1
  | .rested => s1

/-- REST_TIMER_EXPIRY (R24, R28, R31). -/
def execRestTimerExpiry (s : State) : Answer :=
  whenever (inRun s && timerDue s.rest.restTimer s.seconds) s (restTimerEnds s)

/-- The self-discharge offer of a long-rest expiry; the reference is consumed (R30). -/
def offerSelfDischarge (s : State) : State :=
  match s.rest.reference, s.fe.lastVoltage, s.fe.lastTemperature with
  | some ref, some v, some t => takeSelfDischarge ref (socOf s v) t (s.setRest { s.rest with reference := none })
  | _, _, _ => s.setRest { s.rest with reference := none }

/-- The long-rest timer expires in RESTED: the offer, then a capture, or RESTED anew (R30). -/
def longRestEnds (s : State) : State :=
  let s1 := offerSelfDischarge (s.setRest { s.rest with longTimer := none })
  if temperatureIn s1 then capture s1 else enterRested s1

/-- LONG_REST_EXPIRY (R30, R31). -/
def execLongRestExpiry (s : State) : Answer :=
  whenever (inRun s && timerDue s.rest.longTimer s.seconds && decide (s.rest.state = .rested)) s (longRestEnds s)

/-- The named point leaves the list and the pair is examined again; a point no longer there is no matter (R35). -/
def removePoint (time : Nat) (s : State) : State :=
  if s.ret.points.any (fun p => p.time == time) then
    examinePair (s.setRet { s.ret with points := s.ret.points.eraseP (fun p => p.time == time) })
  else s

/-- The oldest waiting request is taken (R35). -/
def takeRemoval (s : State) : State :=
  match s.rest.removals with
  | t :: rest => removePoint t (s.setRest { s.rest with removals := rest })
  | [] => s

/-- REMOVAL_REQUEST: the oldest request the grade unit has made and that waits (R35). -/
def execRemovalRequest (s : State) : Answer :=
  whenever (inRun s && !s.rest.removals.isEmpty) s (takeRemoval s)

end Sys2Proof.Machine
end

