-- ==== Sys2Proof/Machine/SupplyCommands.lean ====
section
/-! DEFINITION. The commands of the pins and of the supply: CHAIN_IN_ACTIVE, CHAIN_IN_INACTIVE, and the events of the table
of R184. -/

namespace Sys2Proof.Machine

/-- The level of CHAIN-IN. -/
def setChainIn (level : Bool) (s : State) : State := s.setPins { s.pins with chainIn := level }

/-- The level of RESET. -/
def setResetLine (level : Bool) (s : State) : State := s.setPins { s.pins with reset := level }

/-- A node in CHAIN WAIT. -/
def waitsForChain (s : State) : Bool := inRun s && decide (s.comm.numbering = some .chainWait)

/-- CHAIN_IN_ACTIVE: CHAIN WAIT becomes QUIET WAIT (R177); CHAIN-OUT follows where the node passes the chain on (R170,
R176). -/
def execChainInActive (s : State) : Answer :=
  let s1 := setChainIn true s
  done (if waitsForChain s1 then enterQuietWait s1 else s1)

/-- CHAIN_IN_INACTIVE: CHAIN-OUT follows where the node passes the chain on, nothing else changes (R170, R176, R177). -/
def execChainInInactive (s : State) : Answer := done (setChainIn false s)

/-- START is entered with a pending start kind and left within the event (R184, R186). -/
def startWith (k : StartKind) (i : StartInputs) (s : State) : State := passStart i (setSupplyState .start k s)

/-- SUPPLY_AT_RUN_LEVEL (R184): OFF and HOLD start, or OFF enters RESET while the line is held; RESET starts once the
line is released; RUN already stands at run level. -/
def execSupplyAtRunLevel (inputs : StartInputs) (s : State) : Answer :=
  match s.supply.state with
  | .off => done (if s.pins.reset then setSupplyState .reset .cold s else startWith .cold inputs s)
  | .hold => done (startWith .warm inputs s)
  | .reset => if s.pins.reset then noEvent s else done (startWith s.supply.kind inputs s)
  | .run => noEvent s
  | .start => noEvent s

/-- Leaving RUN for HOLD: every block stops and a continuity break is raised (R188). -/
def enterHold (s : State) : State := continuityBreak (leaveRun (setSupplyState .hold .warm s))

/-- SUPPLY_BELOW_HOLD_LEVEL: watched in RUN only (R184, R188). -/
def execSupplyBelowHoldLevel (s : State) : Answer := whenever (inRun s) s (enterHold s)

/-- The retention domain is lost: what it holds then is a free value (R187; log entry 8). -/
def loseDomain (s : State) : State := { s with dom := Config.lostDomain s.free, free := s.free + 1 }

/-- HOLD and RESET, where a fall below the retention limit is taken (R184). -/
def holdsDomain (st : SupplyState) : Bool :=
  match st with
  | .hold => true
  | .reset => true
  | .off => false
  | .start => false
  | .run => false

/-- SUPPLY_BELOW_RETENTION_LIMIT: OFF with the kind COLD (R184, R187). -/
def execSupplyBelowRetentionLimit (s : State) : Answer :=
  whenever (holdsDomain s.supply.state) s (loseDomain (setSupplyState .off .cold s))

/-- RESET with the kind RESTART (R184). -/
def enterReset (s : State) : State := setSupplyState .reset .restart s

/-- RESET_ASSERTED (R184, R185): RUN and HOLD enter RESET with RESTART, RUN stopping every block; elsewhere only the
line's level changes. -/
def execResetAsserted (s : State) : Answer :=
  let s1 := setResetLine true s
  match s.supply.state with
  | .run => done (enterReset (leaveRun s1))
  | .hold => done (enterReset s1)
  | .reset => done s1
  | .off => done s1
  | .start => done s1

/-- RESET_RELEASED (R184, R185): RESET starts when the supply stands at run level, with the kind unchanged; elsewhere
only the line's level changes. -/
def execResetReleased (atRunLevel : Bool) (inputs : StartInputs) (s : State) : Answer :=
  let s1 := setResetLine false s
  done (if s.supply.state = .reset ∧ s.pins.reset = true ∧ atRunLevel = true then startWith s.supply.kind inputs s1
    else s1)

end Sys2Proof.Machine
end

