-- ==== Sys2Proof/Machine/TimerCommands.lean ====
section
/-! DEFINITION. The expiries of the timers counted in ms: announce, proposal, reply, hold, partner, quiet, request and
holdoff. A stopped timer does not expire (log entry 4). -/

namespace Sys2Proof.Machine

/-- The ANNOUNCE the schedule offers: kind and destination only (R111). -/
def scheduledAnnounce (s : State) : Frame := ⟨broadcast, ownByte s, kindAnnounce, []⟩

/-- ANNOUNCE_TIMER_EXPIRY: an ANNOUNCE is offered and the timer runs for one interval (R110, R111). -/
def execAnnounceTimerExpiry (s : State) : Answer :=
  whenever (inRun s && s.fp.announceTimer.isSome) s
    (offer (scheduledAnnounce s)
      (s.setFp { s.fp with announceTimer := some ((prof s).announceInterval * 1000) }))

/-- The head of the candidate order (R130). -/
def candidateHead (s : State) : Option PeerEntry := (candidates (prof s) s.grade s.table).head?

/-- The proposal of R143 to the head of the candidate order, if there is one. -/
def proposeToHead (s : State) : State :=
  match candidateHead s with
  | some e =>
    let f := proposeFrame s e.number (e.score.getD 0)
    enterProposing e.number (queueTakes s.link f) (offer f s)
  | none => s

/-- PROPOSAL_TIMER_EXPIRY: the timer runs for one interval; in FREE and unfrozen the engine proposes (R142, R143). -/
def execProposalTimerExpiry (s : State) : Answer :=
  let s1 := s.setBond { s.bond with proposalTimer := some ((prof s).proposalInterval * 1000) }
  whenever (inRun s && s.bond.proposalTimer.isSome) s
    (if s1.ret.bondState = .free ∧ s1.ret.freeze = false then proposeToHead s1 else s1)

/-- The reply timer expires in PROPOSING: the target is marked SILENT and unpinned, FREE (R149). -/
def replyTimerEnds (s : State) : State :=
  match s.ret.engaged with
  | some n => disengageMarked n .silent s
  | none => disengage .free s

/-- REPLY_TIMER_EXPIRY (R149). -/
def execReplyTimerExpiry (s : State) : Answer :=
  whenever (inRun s && s.bond.replyTimer.isSome && decide (s.ret.bondState = .proposing)) s (replyTimerEnds s)

/-- HOLD_TIMER_EXPIRY: unpinned and FREE, without a mark (R151). -/
def execHoldTimerExpiry (s : State) : Answer :=
  whenever (inRun s && s.bond.holdTimer.isSome && decide (s.ret.bondState = .held)) s (disengage .free s)

/-- PARTNER_TIMER_EXPIRY: unfrozen, the bond ends in FREE; frozen, BONDED-SILENT with the timer stopped (R153). -/
def execPartnerTimerExpiry (s : State) : Answer :=
  whenever (inRun s && s.bond.partnerTimer.isSome && decide (s.ret.bondState = .bonded)) s
    (if s.ret.freeze then
      (setBondState .bondedSilent s.ret.engaged s).setBond { s.bond with partnerTimer := none }
    else disengage .free s)

/-- QUIET_TIMER_EXPIRY: the chained node enters CLAIMING (R177, R178, R181). -/
def execQuietTimerExpiry (s : State) : Answer :=
  whenever (inRun s && s.comm.quietTimer.isSome && decide (s.comm.numbering = some .quietWait)) s (chainedClaim s)

/-- REQUEST_TIMER_EXPIRY: another request, the timer again, and a stalled buffer emptied (R171, R172). -/
def execRequestTimerExpiry (s : State) : Answer :=
  whenever (inRun s && s.comm.requestTimer.isSome && decide (s.comm.state = .awaitingProfile)) s
    (offer requestFrame
      (s.setComm { s.comm with
        requestTimer := some Config.requestMs
        buffer := bufferAtExpiry s.comm.buffer }))

/-- HOLDOFF_EXPIRY: WAIT with a frame queued, IDLE without (R93). -/
def execHoldoffExpiry (s : State) : Answer :=
  whenever (inRun s && s.link.holdoff.isSome && decide (s.link.transmitter = .holdoff)) s
    (s.setLink (afterHoldoff s.link))

end Sys2Proof.Machine
end

