-- ==== Sys2Proof/Machine/Dispatch.lean ====
section
/-! DEFINITION. The meaning of every command: one arm per row of the opcode table. -/

namespace Sys2Proof.Machine

def exec (i : Instr) (s : State) : Host.Outcome State Fault Refusal :=
  match i with
  | .chargePulse dir => Sys2Proof.Machine.execChargePulse dir s
  | .windowClose vsense => Sys2Proof.Machine.execWindowClose vsense s
  | .secondsCounterIncrement tsense => Sys2Proof.Machine.execSecondsCounterIncrement tsense s
  | .restTimerExpiry => Sys2Proof.Machine.execRestTimerExpiry s
  | .removalRequest => Sys2Proof.Machine.execRemovalRequest s
  | .longRestExpiry => Sys2Proof.Machine.execLongRestExpiry s
  | .peerAgeRemoval number => Sys2Proof.Machine.execPeerAgeRemoval number s
  | .declineMarkExpiry number => Sys2Proof.Machine.execDeclineMarkExpiry number s
  | .announceTimerExpiry => Sys2Proof.Machine.execAnnounceTimerExpiry s
  | .proposalTimerExpiry => Sys2Proof.Machine.execProposalTimerExpiry s
  | .replyTimerExpiry => Sys2Proof.Machine.execReplyTimerExpiry s
  | .holdTimerExpiry => Sys2Proof.Machine.execHoldTimerExpiry s
  | .partnerTimerExpiry => Sys2Proof.Machine.execPartnerTimerExpiry s
  | .quietTimerExpiry => Sys2Proof.Machine.execQuietTimerExpiry s
  | .requestTimerExpiry => Sys2Proof.Machine.execRequestTimerExpiry s
  | .holdoffExpiry => Sys2Proof.Machine.execHoldoffExpiry s
  | .attemptBegin bits => Sys2Proof.Machine.execAttemptBegin bits s
  | .arbitrationLoss bits => Sys2Proof.Machine.execArbitrationLoss bits s
  | .transmitLineFault bits => Sys2Proof.Machine.execTransmitLineFault bits s
  | .attemptComplete bits => Sys2Proof.Machine.execAttemptComplete bits s
  | .stuckDominantLine bits => Sys2Proof.Machine.execStuckDominantLine bits s
  | .busReset bits => Sys2Proof.Machine.execBusReset bits s
  | .receiveAbort bits => Sys2Proof.Machine.execReceiveAbort bits s
  | .frameReceived bits => Sys2Proof.Machine.execFrameReceived bits s
  | .unknownKind => Sys2Proof.Machine.execUnknownKind s
  | .enum => Sys2Proof.Machine.execEnum s
  | .announce => Sys2Proof.Machine.execAnnounce s
  | .propose => Sys2Proof.Machine.execPropose s
  | .accept => Sys2Proof.Machine.execAccept s
  | .decline => Sys2Proof.Machine.execDecline s
  | .confirm => Sys2Proof.Machine.execConfirm s
  | .release => Sys2Proof.Machine.execRelease s
  | .query => Sys2Proof.Machine.execQuery s
  | .grade => Sys2Proof.Machine.execGrade s
  | .campaignStart => Sys2Proof.Machine.execCampaignStart s
  | .campaignFreeze => Sys2Proof.Machine.execCampaignFreeze s
  | .campaignRegrade => Sys2Proof.Machine.execCampaignRegrade s
  | .campaignReleaseAll => Sys2Proof.Machine.execCampaignReleaseAll s
  | .campaignUnknownAction => Sys2Proof.Machine.execCampaignUnknownAction s
  | .profileRequest => Sys2Proof.Machine.execProfileRequest s
  | .profileSegment => Sys2Proof.Machine.execProfileSegment s
  | .chainInActive => Sys2Proof.Machine.execChainInActive s
  | .supplyAtRunLevel inputs => Sys2Proof.Machine.execSupplyAtRunLevel inputs s
  | .supplyBelowHoldLevel => Sys2Proof.Machine.execSupplyBelowHoldLevel s
  | .supplyBelowRetentionLimit => Sys2Proof.Machine.execSupplyBelowRetentionLimit s
  | .resetAsserted => Sys2Proof.Machine.execResetAsserted s
  | .resetReleased atRunLevel inputs => Sys2Proof.Machine.execResetReleased atRunLevel inputs s
  | .openingDelimiter bits => Sys2Proof.Machine.execOpeningDelimiter bits s
  | .chainInInactive => Sys2Proof.Machine.execChainInInactive s

end Sys2Proof.Machine
end

