-- ==== Sys2Proof/WellFormed.lean ====
section
/-! DEFINITION. Which commands the world can send: the ranges the manual gives to what an operand stands for. The
block itself refuses none of them; a command outside these checks is one no world sends. -/

namespace Sys2Proof

/-- A node number of R139 and R122: 1…239. -/
def nodeNumberOk (n : Nat) : Bool := decide (1 ≤ n ∧ n ≤ 239)

/-- A dip may corrupt the retention domain's contents, not the widths of its items (R187, R189, R53). -/
def Domain.inWidths (d : Domain) : Bool :=
  decide (d.seconds ≤ Config.secondsMax ∧ d.secondsCopy ≤ Config.secondsMax)
    && decide (d.ret.grade.epoch ≤ 255 ∧ d.ret.grade.estimateCount ≤ 255)
    && decide (d.ret.points.length ≤ Config.listPlaces)
    && decide (Config.chargeMin ≤ d.ret.charge ∧ d.ret.charge ≤ Config.chargeMax)
    && (match d.ret.campaign with
        | some c => decide (c ≤ 255)
        | none => true)

/-- The memory read clocks in 131 bytes (R168). -/
def StartInputs.memoryOk (i : StartInputs) : Bool := decide (i.memory.length = 131)

/-- The upset contents keep the widths of the domain. -/
def StartInputs.upsetOk (i : StartInputs) : Bool :=
  match i.upset with
  | some d => d.inWidths
  | none => true

/-- The inputs of a start. -/
def StartInputs.wf (i : StartInputs) : Bool := i.memoryOk && i.upsetOk

/-- Well-formed commands. -/
def Instr.wf : Instr → Bool
  | .peerAgeRemoval n => nodeNumberOk n
  | .declineMarkExpiry n => nodeNumberOk n
  | .supplyAtRunLevel i => i.wf
  | .resetReleased _ i => i.wf
  | .chargePulse _ => true
  | .windowClose _ => true
  | .secondsCounterIncrement _ => true
  | .restTimerExpiry => true
  | .removalRequest => true
  | .longRestExpiry => true
  | .announceTimerExpiry => true
  | .proposalTimerExpiry => true
  | .replyTimerExpiry => true
  | .holdTimerExpiry => true
  | .partnerTimerExpiry => true
  | .quietTimerExpiry => true
  | .requestTimerExpiry => true
  | .holdoffExpiry => true
  | .attemptBegin _ => true
  | .arbitrationLoss _ => true
  | .transmitLineFault _ => true
  | .attemptComplete _ => true
  | .stuckDominantLine _ => true
  | .busReset _ => true
  | .receiveAbort _ => true
  | .frameReceived _ => true
  | .unknownKind => true
  | .enum => true
  | .announce => true
  | .propose => true
  | .accept => true
  | .decline => true
  | .confirm => true
  | .release => true
  | .query => true
  | .grade => true
  | .campaignStart => true
  | .campaignFreeze => true
  | .campaignRegrade => true
  | .campaignReleaseAll => true
  | .campaignUnknownAction => true
  | .profileRequest => true
  | .profileSegment => true
  | .chainInActive => true
  | .supplyBelowHoldLevel => true
  | .supplyBelowRetentionLimit => true
  | .resetAsserted => true
  | .openingDelimiter _ => true
  | .chainInInactive => true

end Sys2Proof
end

