-- ==== Sys2Proof/Safety.lean ====
section
/-! DEFINITION. What a state of the block must satisfy, in the terms the statements use: the capacities and the order of
the link and the table, the pins, the retention domain, the timers of the bond engine. -/

namespace Sys2Proof.Machine

/-- The FIFO and the queue hold at most 4 frames, and the queue at most one ANNOUNCE (R87, R95). -/
def LinkInLimits (s : State) : Prop :=
  s.link.fifo.length ≤ Config.queuePlaces ∧ s.link.queue.length ≤ Config.queuePlaces
    ∧ (s.link.queue.filter (fun f => f.kind == kindAnnounce)).length ≤ 1

/-- One of the receiver's two run counts is 0 (R77). -/
def RunsApart (s : State) : Prop := s.link.receiver.recessiveRun = 0 ∨ s.link.receiver.dominantRun = 0

/-- At most 32 entries, no two of one number, standing in the table order (R122, R128). -/
def TableOrdered (s : State) : Prop :=
  s.table.entries.length ≤ Config.tablePlaces
    ∧ (s.table.entries.map (fun e => e.number)).Nodup
    ∧ s.table.entries.Pairwise (fun a b => standsAhead a b = true)

/-- Every output pin of the link, the pulse engine, the commissioning unit and the monitor follows the state (R41, R76,
R170 to R182, R192). -/
def PinsFollow (s : State) : Prop := drivePins s = s

/-- Outside RUN the link has stopped: the transmitter is not in SENDING (R100, R188). -/
def SilentOutsideRun (s : State) : Prop := inRun s = false → s.link.transmitter ≠ .sending

/-- The supply states in which the retention domain holds what the node left in it: RUN, HOLD, and RESET unless it was
entered from OFF (R184, R187). -/
def domainTrusted (s : State) : Bool :=
  match s.supply.state with
  | .run => true
  | .hold => true
  | .reset => decide (s.supply.kind ≠ .cold)
  | .off => false
  | .start => false

/-- Between events the contents of the retention domain pass the retention check (R186, R187). -/
def DomainSound (s : State) : Prop := domainTrusted s = true → retentionPasses s.dom = true

/-- The bond engine's reply, hold and partner timers run only in the state they time, PAIR-EN is active only while a bond
stands, and a PROPOSE is the engine's to withdraw only in PROPOSING, all of them only in RUN (R139, R143, R149, R151, R153,
R158, R188). -/
def BondTimersOk (s : State) : Prop :=
  (s.bond.replyTimer.isSome = true → inRun s = true ∧ s.ret.bondState = .proposing)
    ∧ (s.bond.holdTimer.isSome = true → inRun s = true ∧ s.ret.bondState = .held)
    ∧ (s.bond.partnerTimer.isSome = true → inRun s = true ∧ s.ret.bondState = .bonded)
    ∧ (s.bond.pairEn = true → inRun s = true ∧ bondStands s.ret.bondState = true)
    ∧ (s.bond.proposeTaken = true → inRun s = true ∧ s.ret.bondState = .proposing)

/-- The engaged number is present exactly in PROPOSING, HELD, BONDED and BONDED-SILENT (R139). -/
def EngagedOk (s : State) : Prop :=
  domainTrusted s = true → s.ret.engaged.isSome = engagedState s.ret.bondState

/-- The retained counts lie in their ranges (R4, R32, R53, R189). -/
def RetainedInRange (s : State) : Prop :=
  domainTrusted s = true →
    Config.chargeMin ≤ s.ret.charge ∧ s.ret.charge ≤ Config.chargeMax ∧ s.ret.points.length ≤ Config.listPlaces
      ∧ s.grade.epoch ≤ 255 ∧ s.grade.estimateCount ≤ 255 ∧ s.dom.seconds ≤ Config.secondsMax
      ∧ s.dom.secondsCopy ≤ Config.secondsMax

/-- The contents a dip may leave keep the ranges of `RetainedInRange` and the presence of the engaged number. -/
def domainPlausible (d : Domain) : Bool :=
  d.inWidths && decide (d.ret.engaged.isSome = engagedState d.ret.bondState)

/-- A command brings no corrupted domain, or one that is still plausible. -/
def upsetPlausible (c : Instr) : Bool :=
  match c with
  | .supplyAtRunLevel i => (i.upset.map domainPlausible).getD true
  | .resetReleased _ i => (i.upset.map domainPlausible).getD true
  | _ => true

/-- Every waiting command brings plausible contents. -/
def PendingPlausible (s : State) : Prop := ∀ c ∈ s.pending, upsetPlausible c = true

/-- The row of the opcode table that takes a frame (R103, R109, R118, R119). -/
def frameRow (f : Frame) : Instr :=
  match f.kind.toNat with
  | 1 => .enum
  | 2 => .announce
  | 3 => .propose
  | 4 => .accept
  | 5 => .decline
  | 6 => .confirm
  | 7 => .release
  | 8 => .query
  | 9 => .grade
  | 10 =>
    match campaignAction f with
    | some .start => .campaignStart
    | some .freeze => .campaignFreeze
    | some .regrade => .campaignRegrade
    | some .releaseAll => .campaignReleaseAll
    | none => .campaignUnknownAction
  | 11 => if isRequest f then .profileRequest else .profileSegment
  | _ => .unknownKind

/-- The state with the oldest frame gone from the FIFO: all that a frame set aside leaves behind (R87, R103). -/
def popFrame (s : State) : State := { s with link := { s.link with fifo := s.link.fifo.tail } }

/-- A well-formed frame at the front of the FIFO of a node in RUN, with none in hand (R102, R103). -/
abbrev takes (s : State) (f : Frame) : Prop := inRun s = true ∧ frontFrame s = some f ∧ wellFormed f = true

/-- The engagement over, in the state `next`: no engaged number, the peer unpinned, the timers of the engagement stopped, and
nothing left of a bond (R134, R158; the class and the report by log entry 13). A queued PROPOSE is the caller's. -/
def unengaged (next : BondState) (s : State) : State :=
  { s with
    dom := { s.dom with ret := { s.ret with bondState := next, engaged := none } }
    table := unpin (prof s) s.seconds s.table
    bond := { s.bond with
      replyTimer := none, holdTimer := none, partnerTimer := none, bondClass := none, report := none, pairEn := false
      proposeTaken := false } }

/-- A handshake with a target is over: its PROPOSE, if the queue took it, is withdrawn if it is still there and not in SENDING;
it is the newest one to the target (R143; log entry 16). -/
def withoutPropose (n : Nat) (s : State) : State :=
  { s with link := if s.bond.proposeTaken = true then withdrawFrame s.link (isProposeTo n) else s.link }

/-- The rest detector after a sample record: a faulted one breaks continuity (R36), a clean one has no effect while dormant
(R20); a quiet one begins SETTLING in MOVING (R22), a loud one ends a rest (R23), but for one that falls inside the pulse, in
POST-PULSE SETTLING before the pulse is reported over (R28). -/
def restAfterRecord (record : SampleRecord) (s : State) : RestDetector :=
  let moving : RestDetector := { s.rest with state := .moving, restTimer := none, longTimer := none, reference := none }
  if record.faulted = true then moving
  else if s.ret.activity = .dormant then s.rest
  else if s.rest.state = .moving then
    if record.current.natAbs ≤ (prof s).restThreshold then
      { s.rest with state := .settling, restTimer := some (record.seconds + (prof s).restTime * 60) }
    else s.rest
  else if record.current.natAbs ≤ (prof s).restThreshold
      ∨ (s.rest.state = .postPulseSettling ∧ s.rest.restTimer = none) then s.rest
  else moving

/-- The bond engine at an entry to MUTED: unfrozen it has left every engagement for UNREADY, frozen it stands as it was, but for
the proposal timer; the peer table is empty, and its pin number goes with the engagement (R136, R163). -/
def BondMuted (s t : State) : Prop :=
  t.table.entries = []
    ∧ (s.ret.freeze = true → t.ret.bondState = s.ret.bondState ∧ t.ret.engaged = s.ret.engaged
        ∧ t.table.pin = s.table.pin ∧ t.bond = { s.bond with proposalTimer := none })
    ∧ (s.ret.freeze = false → t.ret.bondState = .unready ∧ t.ret.engaged = none ∧ t.table.pin = none
        ∧ t.bond = ⟨none, none, none, none, s.bond.inconsistency, none, none, false, false⟩)

/-- The entry of a number carries a mark of that reason, due one backoff time from now (R132). -/
def marked (n : Nat) (r : DeclineReason) (s : State) : State :=
  { s with table := placeMark (prof s) s.seconds n r s.table }

/-- The partner has been heard: BONDED, and the partner timer runs anew (R153). -/
def partnerFresh (s : State) : State :=
  { s with
    dom := { s.dom with ret := { s.ret with bondState := .bonded } }
    bond := { s.bond with partnerTimer := some ((prof s).partnerTimeout * (prof s).announceInterval) } }

/-- A frame offered to the transmit queue, and nothing else (R95). -/
def offering (dst kind : Byte) (payload : List Byte) (s : State) : State :=
  { s with link := offerFrame s.link ⟨dst, byteOf (s.comm.held.getD 0), kind, payload⟩ }

/-- What a start that is not cold keeps: the counters, the record, the number, the freeze flag, the campaign number and the
cold marker; the table is empty, and a bond stands with its partner pinned, the own class as its class, no report, and PAIR-EN
inactive (R137, R164, R182, R187). -/
def StartKeeps (s t : State) : Prop :=
  t.ret.charge = s.ret.charge ∧ t.grade = s.grade ∧ t.seconds = s.seconds ∧ t.ret.number = s.ret.number
    ∧ t.ret.freeze = s.ret.freeze ∧ t.ret.campaign = s.ret.campaign ∧ t.ret.coldMarker = s.ret.coldMarker
    ∧ t.table.entries = []
    ∧ (bondStands s.ret.bondState = true → t.ret.bondState = s.ret.bondState ∧ t.ret.engaged = s.ret.engaged
        ∧ t.table.pin = s.ret.engaged ∧ t.bond.bondClass = s.grade.gradeClass ∧ t.bond.report = none
        ∧ t.bond.inconsistency = 0 ∧ t.bond.pairEn = false)
    ∧ (bondStands s.ret.bondState = false → t.ret.engaged = none ∧ t.table.pin = none ∧ t.bond.bondClass = none)

/-- The kept bond engine under the profile `p` and an activity: a kept BONDED has a fresh partner timer, a handshake has become
FREE, and a FREE or REJECTED engine of a dormant node is UNREADY (R164, R167). Of an UNREADY engine it says nothing: the link
may come UP. -/
def BondResumes (p : Profile) (activity : Activity) (s t : State) : Prop :=
  (s.ret.bondState = .bonded → t.bond.partnerTimer = some (p.partnerTimeout * p.announceInterval))
    ∧ (s.ret.bondState ≠ .bonded → t.bond.partnerTimer = none)
    ∧ (s.ret.bondState = .proposing ∨ s.ret.bondState = .held ∨ s.ret.bondState = .free →
        t.ret.bondState = if activity = .active then .free else .unready)
    ∧ (s.ret.bondState = .rejected → t.ret.bondState = if activity = .active then .rejected else .unready)

/-- A node that claims the number `n`: it holds it, and its ENUM is queued in LISTEN (R176). -/
def ClaimsNumber (n : Nat) (m : NumberMethod) (code : Byte) (t : State) : Prop :=
  t.comm.numbering = some .claiming ∧ t.comm.method = some m ∧ t.comm.claim = some n ∧ t.comm.held = some n
    ∧ t.comm.quietTimer = none ∧ t.link.queue = [⟨0xFF#8, byteOf n, 0x01#8, [byteOf n, code]⟩]

/-- NUMBERING as a profile and the retained number begin it at a start: FIXED, RETAINED or CHAINED by the table of R175, the
highest heard 0, the link in LISTEN (R98, R175 to R177, R182). -/
def NumberingBegins (p : Profile) (number : Option NodeNumber) (t : State) : Prop :=
  t.comm.state = .numbering ∧ t.comm.highest = 0 ∧ t.link.mode = .listen
    ∧ (p.nodeNumber ≠ 0 → ClaimsNumber p.nodeNumber .fixed 0x01#8 t)
    ∧ (p.nodeNumber = 0 → ∀ n, number = some n → ClaimsNumber n.number .retained 0x03#8 t)
    ∧ (p.nodeNumber = 0 → number = none → t.comm.method = some .chained ∧ t.comm.claim = none ∧ t.comm.held = none
        ∧ t.link.queue = []
        ∧ t.comm.numbering = (if t.pins.chainIn = true then some .quietWait else some .chainWait)
        ∧ t.comm.quietTimer = (if t.pins.chainIn = true then some 50 else none))

/-- A start from `s` whose loading brought the profile `p` into force: with no other check value than the retained one the
contents are kept, with another the start is made cold; NUMBERING has begun (R167, R174, R175, R191). -/
def ProfileTaken (p : Profile) (check : Word16) (source : ProfileSource) (s t : State) : Prop :=
  t.ret.inForce = true ∧ t.ret.profile = some p ∧ t.ret.source = some source ∧ t.ret.profileCheck = some check
    ∧ t.ret.activity = p.startActivity ∧ t.ret.points = [] ∧ t.ret.offered = none ∧ t.ret.residue = 0
    ∧ t.fe.window = some (windowMs p.gateCode) ∧ t.fe.chg = 0 ∧ t.fe.dsg = 0
    ∧ (s.ret.profileCheck = none ∨ s.ret.profileCheck = some check →
        StartKeeps s t ∧ BondResumes p p.startActivity s t ∧ NumberingBegins p s.ret.number t
          ∧ (s.ret.bondState = .unready → t.ret.bondState = .unready))
    ∧ (∀ k, s.ret.profileCheck = some k → k ≠ check →
        t.ret.charge = 0 ∧ t.grade = emptyGrade ∧ t.seconds = 0 ∧ t.ret.number = none ∧ t.ret.freeze = false
          ∧ t.ret.bondState = .unready ∧ t.ret.engaged = none ∧ t.ret.lastPulse = none ∧ t.ret.campaign = none
          ∧ t.ret.coldMarker = true ∧ t.table = ⟨[], none⟩ ∧ NumberingBegins p none t)

/-- A start from `s` whose loading brought no profile into force: the contents stand, a handshake has become FREE, the node is
dormant and holds no number (R164, R167, R170, R171; no profile and no source by log entry 35). -/
def ProfileLacking (state : CommissioningState) (s t : State) : Prop :=
  StartKeeps s t ∧ t.comm.state = state ∧ t.comm.numbering = none ∧ t.comm.held = none ∧ t.comm.highest = 0
    ∧ t.ret.inForce = false ∧ t.ret.profile = none ∧ t.ret.source = none ∧ t.ret.profileCheck = s.ret.profileCheck
    ∧ t.ret.activity = .dormant ∧ t.ret.residue = s.ret.residue ∧ t.link.mode = .listen ∧ t.bond.partnerTimer = none
    ∧ t.ret.bondState = (if s.ret.bondState = .proposing ∨ s.ret.bondState = .held then .free else s.ret.bondState)

/-- The loading of a start from `s`, by the straps (R166, R168): the built-in default, the external record, the default in the
place of an invalid record, FAILED with ALERT (R170), or AWAITING PROFILE with a request queued (R171). -/
def LoadsByStraps (i : StartInputs) (s t : State) : Prop :=
  let record := parseRecord (i.memory.take 131)
  let builtIn : Prop :=
    ProfileTaken Config.defaultProfile (crc (recordBody Config.defaultProfile)) .builtIn s t
  (i.cfg1 = false → i.cfg0 = true → builtIn ∧ t.comm.memoryCommand = [])
    ∧ (i.cfg0 = i.cfg1 → t.comm.memoryCommand = [0x03#8, 0x00#8, 0x00#8])
    ∧ (i.cfg0 = i.cfg1 → ∀ r, record = some r → ProfileTaken r.profile r.check .externalMemory s t)
    ∧ (i.cfg1 = true → i.cfg0 = true → record = none → builtIn)
    ∧ (i.cfg1 = false → i.cfg0 = false → record = none → ProfileLacking .failed s t ∧ t.link.queue = []
        ∧ t.pins.alert = true ∧ t.pins.chainOut = t.pins.chainIn)
    ∧ (i.cfg1 = true → i.cfg0 = false → ProfileLacking .awaitingProfile s t ∧ t.comm.memoryCommand = []
        ∧ t.comm.requestTimer = some 2000 ∧ t.comm.buffer = none
        ∧ t.link.queue = [⟨0xFF#8, 0x00#8, 0x0B#8, [0x00#8, 0x00#8]⟩])

/-- A cold start: every retained item at its cold start value with the check words written, every block at its start, the
first readings taken, and the loading by the straps, with no number kept (R166, R174, R175, R186, R187, R190, R191). No
profile and no source until one is in force are log entry 35, the readings in thousandths of a °C and in mV log entry 18, the
memory read as one event log entry 19. -/
def StartsCold (i : StartInputs) (t : State) : Prop :=
  let volts := (clamp 0 65535 i.vsense).toNat
  let record := parseRecord (i.memory.take 131)
  let took (p : Profile) (check : Word16) (source : ProfileSource) : Prop :=
    t.ret.inForce = true ∧ t.ret.profile = some p ∧ t.ret.source = some source ∧ t.ret.profileCheck = some check
      ∧ t.ret.activity = p.startActivity ∧ NumberingBegins p none t
  let fallback : Prop := took Config.defaultProfile (crc (recordBody Config.defaultProfile)) .builtIn
  let lacks (state : CommissioningState) : Prop :=
    t.comm.state = state ∧ t.comm.numbering = none ∧ t.comm.held = none ∧ t.ret.inForce = false ∧ t.ret.profile = none
      ∧ t.ret.source = none ∧ t.ret.profileCheck = none ∧ t.ret.activity = .dormant
  (t.ret.charge = 0 ∧ t.ret.residue = 0 ∧ t.ret.points = [] ∧ t.ret.offered = none ∧ t.ret.lastPulse = none
      ∧ t.grade = emptyGrade ∧ t.ret.bondState = .unready ∧ t.ret.engaged = none ∧ t.ret.freeze = false
      ∧ t.ret.number = none ∧ t.ret.campaign = none ∧ t.ret.coldMarker = true
      ∧ t.seconds = 0 ∧ t.dom.secondsCopy = 0 ∧ t.dom.word1 = 0xAA55#16 ∧ t.dom.word2 = 0x55AA#16)
    ∧ (t.table = ⟨[], none⟩ ∧ t.bond = ⟨none, none, none, none, 0, none, none, false, false⟩
      ∧ t.rest = ⟨.moving, none, none, none, []⟩ ∧ t.pulse = ⟨.idle, 0, false, none, none⟩ ∧ t.fp = ⟨none, none⟩
      ∧ t.link.mode = .listen ∧ t.link.fifo = [] ∧ t.link.receiver.state = .hunt ∧ t.comm.highest = 0
      ∧ t.fe = ⟨some (windowMs (prof t).gateCode), 0, 0, none, some ⟨volts, roundHalfUp volts (prof t).series⟩,
          some (clamp (-40) 125 (roundHalfUpInt i.tsense 1000)), false, false⟩)
    ∧ (i.cfg0 ≠ i.cfg1 → t.comm.memoryCommand = [])
    ∧ (i.cfg0 = i.cfg1 → t.comm.memoryCommand = [0x03#8, 0x00#8, 0x00#8])
    ∧ (i.cfg1 = false → i.cfg0 = true → fallback)
    ∧ (i.cfg1 = true → i.cfg0 = true → record = none → fallback)
    ∧ (i.cfg0 = i.cfg1 → ∀ r, record = some r → took r.profile r.check .externalMemory)
    ∧ (i.cfg1 = false → i.cfg0 = false → record = none → lacks .failed ∧ t.link.queue = [] ∧ t.pins.alert = true
        ∧ t.pins.chainOut = t.pins.chainIn)
    ∧ (i.cfg1 = true → i.cfg0 = false → lacks .awaitingProfile ∧ t.comm.requestTimer = some 2000 ∧ t.comm.buffer = none
        ∧ t.link.queue = [⟨0xFF#8, 0x00#8, 0x0B#8, [0x00#8, 0x00#8]⟩])

end Sys2Proof.Machine
end

