-- ==== Sys2Proof/Certificates/Slice0/Obligations.lean ====
section
/-! DEFINITION. The statements for the provers. Each says what a command or the machine does, in terms of `exec`, `step` and the
operations of the model; `settle` is what follows at the end of every event (`SettleFrame` says what it can touch). -/

open Sys2Proof Sys2Proof.Machine

/-! ## The step and the answers -/

/-- A step takes the command at the front of the queue and runs it on the state with the queue's rest; with nothing waiting the
block idles (the model's own: log entries 1 and 4). -/
def Obligations.StepTakesTheFront : Prop :=
  ∀ (c : Instr) (rest : List Instr) (s : State),
    step (s.setPending (c :: rest)) = exec c (s.setPending rest)
      ∧ step (s.setPending []) = .next (s.setPending [])

/-- No command ever faults or is refused, and none touches the queue of waiting commands. Outside RUN the commands of the front
end, the link, the frames, the timers and the table answer a next state that is the state itself: R188 stops the blocks
there, and that a command whose event cannot occur changes nothing is the model's choice, log entry 3. -/
def Obligations.EveryCommandCompletes : Prop :=
  ∀ (c : Instr) (s : State),
    (∃ t, exec c s = .next t ∧ t.pending = s.pending)
      ∧ (inRun s = false →
        (match c with
          | .secondsCounterIncrement _ => False
          | .chainInActive => False
          | .chainInInactive => False
          | .supplyAtRunLevel _ => False
          | .supplyBelowRetentionLimit => False
          | .resetAsserted => False
          | .resetReleased _ _ => False
          | _ => True) →
        exec c s = .next s)

/-- What follows at the end of every event: the output pins, the check value outside OFF, and, while a share broadcast is
under way with the link UP, room in the queue and no segment in it, the next segment at the queue's end; nothing else in the
state changes (R97, R173, R187). A sharer's segment is a broadcast from its number with the index, the count, the record
length and 32 bytes of its own record, fewer at the last index; the segments together carry the record (R173, R196). That the
check value is formed anew at the end of every event is the model's, log entry 22, and that the record is encoded from the
profile log entry 28. -/
def Obligations.SettleFrame : Prop :=
  ∀ s : State,
    let pins : Pins := { s.pins with
      chainOut := (settle s).pins.chainOut, load := (settle s).pins.load, alert := (settle s).pins.alert
      busDominant := (settle s).pins.busDominant, scs := false }
    let dom : Domain := { s.dom with check := if s.supply.state = .off then s.dom.check else retentionCheck s.ret }
    let feeds : Prop := s.link.mode = .up ∧ s.link.queue.length < 4 ∧ s.link.queue.any isSegment = false
    let record := encodeRecord (prof s)
    let count := (record.length + 31) / 32
    segmentCount s = count
      ∧ (∀ i, segmentFrame s i = ⟨0xFF#8, byteOf (s.comm.held.getD 0), 0x0B#8,
            [byteOf i, byteOf count, byteOf record.length] ++ (record.drop (32 * i)).take 32⟩
          ∧ (i + 1 < count → (segmentFrame s i).payload.length = 35)
          ∧ (i + 1 = count → (segmentFrame s i).payload.length = 3 + (record.length - 32 * (count - 1))))
      ∧ (List.range count).flatMap (fun i => (segmentFrame s i).payload.drop 3) = record
      ∧ (s.comm.share = none → settle s = { s with pins := pins, dom := dom })
      ∧ (∀ i, s.comm.share = some i →
          (¬ feeds → settle s = { s with pins := pins, dom := dom })
            ∧ (feeds → settle s = { s with
                pins := pins
                dom := dom
                link := { s.link with
                  queue := s.link.queue ++ [segmentFrame s i]
                  transmitter := if s.link.transmitter = .idle then .wait else s.link.transmitter }
                comm := { s.comm with share := if i + 1 < segmentCount s then some (i + 1) else none } }))

/-! ## Invariants -/

/-- The state after reset meets every invariant stated below. The values of the retention domain and of the blocks in it are the
model's choice, log entries 7 and 11. -/
def Obligations.ResetMeetsInvariants : Prop :=
  PinsFollow State.reset ∧ LinkInLimits State.reset ∧ TableOrdered State.reset ∧ DomainSound State.reset
    ∧ BondTimersOk State.reset ∧ EngagedOk State.reset ∧ RetainedInRange State.reset ∧ RunsApart State.reset
    ∧ SilentOutsideRun State.reset

/-- Every step keeps the output pins in agreement with the state and the transmitter out of SENDING outside RUN, and what the
two mean at each pin: ALERT (R192), LOAD (R41), CHAIN-OUT in RUN (R170, R176, R177, R179 to R182), BUS dominant in SENDING only,
at a bit 0 of the attempt (R76), and, outside RUN, LOAD undriven, CHAIN-OUT and SCS inactive, BUS and ALERT released (R188;
PAIR-EN there is `BondTimersKept`). SCS inactive between any two commands is log entry 19. -/
def Obligations.PinsFollowKept : Prop :=
  ∀ s t : State, PinsFollow s → SilentOutsideRun s → step s = .next t →
    PinsFollow t ∧ SilentOutsideRun t
      ∧ (t.pins.alert = true ↔ t.supply.state = .run ∧
          (t.comm.state = .failed ∨ t.comm.numbering = some .conflict ∨ t.comm.numbering = some .noNumber
            ∨ t.link.lineFault = true))
      ∧ (t.supply.state = .run → t.ret.inForce = true →
          (t.pins.load = .high ∨ t.pins.load = .low)
            ∧ (t.pins.load = .high ↔ (t.pulse.state = .pulsing ↔ (prof t).loadActiveLow = false)))
      ∧ (t.supply.state ≠ .run ∨ t.ret.inForce = false → t.pins.load = .undriven)
      ∧ (t.supply.state ≠ .run → t.pins.chainOut = false ∧ t.pins.busDominant = false ∧ t.pins.alert = false)
      ∧ (t.supply.state = .run → t.comm.state = .loading ∨ t.comm.state = .awaitingProfile → t.pins.chainOut = false)
      ∧ (t.supply.state = .run → t.comm.state = .failed → t.pins.chainOut = t.pins.chainIn)
      ∧ (t.supply.state = .run → t.comm.state = .numbering ∨ t.comm.state = .ready →
          (t.comm.method = some .chained → (t.pins.chainOut = true ↔ t.comm.numbering = some .numbered
              ∨ t.comm.numbering = some .conflict ∨ t.comm.numbering = some .noNumber))
            ∧ (t.comm.method = some .fixed ∨ t.comm.method = some .retained → t.pins.chainOut = t.pins.chainIn))
      ∧ (t.pins.busDominant = true → t.link.transmitter = .sending)
      ∧ (t.link.attempt = none → t.pins.busDominant = false)
      ∧ (∀ a, t.link.attempt = some a →
          (t.pins.busDominant = true ↔ t.link.transmitter = .sending ∧ a.outcome = none ∧ a.bits[a.sent]? = some false))
      ∧ t.pins.scs = false

/-- Every step keeps the receive FIFO and the transmit queue within 4 frames and at most one ANNOUNCE queued (R87, R95), and one
of the receiver's two run counts at 0 (R77). -/
def Obligations.LinkInLimitsKept : Prop :=
  ∀ s t : State, step s = .next t → (LinkInLimits s → LinkInLimits t) ∧ (RunsApart s → RunsApart t)

/-- Every step keeps the peer table within 32 entries of distinct numbers in the table order (R122, R128). -/
def Obligations.TableOrderedKept : Prop :=
  ∀ s t : State, TableOrdered s → step s = .next t → TableOrdered t

/-- Every step keeps the retention domain such that it passes its check (R187): an entry to HOLD or RESET at any moment
leaves a domain that passes. -/
def Obligations.DomainSoundKept : Prop :=
  ∀ s t : State, DomainSound s → step s = .next t → DomainSound t

/-- Every step keeps each of the bond engine's timers running only in the state it times, PAIR-EN active only while a bond
stands, and a PROPOSE the engine's to withdraw only in PROPOSING (R139, R143, R149, R151, R158; log entry 16). -/
def Obligations.BondTimersKept : Prop :=
  ∀ s t : State, BondTimersOk s → step s = .next t → BondTimersOk t

/-- Every step keeps the engaged number present exactly in the four engaged states (R139), and the charge counter, the Rest
Point List, the epoch, the estimate count and the seconds counter in their ranges (R4, R32, R53, R189), where no dip has left
other contents behind (log entry 10). -/
def Obligations.RetainedKept : Prop :=
  ∀ s t : State, PendingPlausible s → step s = .next t →
    (EngagedOk s → EngagedOk t) ∧ (RetainedInRange s → RetainedInRange t)

/-! ## Formats and the line -/

/-- The register passed over any bytes and the two check bytes formed over them holds 0000H (R197); so the content a transmitter
forms is a good frame whose parts are read back as they were put in (R83, R194), and on the line it holds no run of seven
equal bits (R80). -/
def Obligations.FrameFormat : Prop :=
  (∀ l : List Byte, crc (l ++ checkBytes l) = 0#16)
    ∧ (∀ f : Frame, f.payload.length ≤ 40 →
      goodContent (bytesBits (frameContent f)) = some (frameContent f) ∧ frameOf (frameContent f) = f)
    ∧ (∀ (content pre suf : List Bool) (b : Bool), stuffFrom 0 false content ≠ pre ++ List.replicate 7 b ++ suf)

/-- A receiver in HUNT on an idle line takes the bits of a content of 5 to 45 bytes. The destination byte leaves it in
RECEIVING where the address filter passes it and in SKIPPING elsewhere; a content that passes is closed exactly as it was put
on the line, any other is not closed, and so not there to be judged; either way the closing delimiter leaves the receiver in
HUNT (R80, R81, R82, R84, R85). An attempt that reads its own bits back completes, and a content that passes is closed as its
own (R86, R92). A closed content waits for its command by log entry 6. -/
def Obligations.LineCarriesContent : Prop :=
  ∀ (held : Option Nat) (stuckAt : Nat) (l : Link) (content : List Byte) (attempt : Option Attempt),
    l.receiver.state = .hunt → Config.idleBits ≤ l.receiver.recessiveRun → l.receiver.dominantRun = 0 →
    l.receiver.leading = false → Config.busResetBits < stuckAt →
    5 ≤ content.length → content.length ≤ 45 →
    l.attempt = attempt → (∀ a, attempt = some a → a.bits = lineBits content ∧ a.sent = 0 ∧ a.outcome = none) →
    let dst := content.getD 0 0
    let passes : Prop := dst = 0xFF#8 ∨ held = some dst.toNat
    let addressed := sampleBits held stuckAt l (delimiter ++ stuffFrom 0 false (byteBits dst))
    let u := sampleBits held stuckAt l (lineBits content)
    (passes → addressed.receiver.state = .receiving ∧ u.closed = l.closed ++ [⟨bytesBits content, attempt.isSome⟩])
      ∧ (¬ passes → addressed.receiver.state = .skipping ∧ u.closed = l.closed)
      ∧ u.receiver.state = .hunt ∧ u.fifo = l.fifo ∧ u.resetDue = l.resetDue ∧ u.stuckDue = l.stuckDue
      ∧ (∀ a, attempt = some a →
          u.attempt = some { a with sent := (lineBits content).length, outcome := some .complete })

/-- The record of a valid profile is judged valid and gives back that profile, whatever bytes follow it, and its check bytes
are the profile check value; it is 67 bytes long plus 4 for each breakpoint (R168, R198). -/
def Obligations.RecordRoundTrip : Prop :=
  ∀ (p : Profile) (tail : List Byte), profileValid p = true →
    parseRecord (encodeRecord p ++ tail) = some ⟨p, crc (recordBody p)⟩
      ∧ (encodeRecord p).length = 67 + 4 * p.ocv.length

/-- A profile that a record yields lies in the ranges and orders of the table of R169 (the sixth test of R168). -/
def Obligations.ParsedRecordIsValid : Prop :=
  ∀ (bytes : List Byte) (r : LoadedRecord), parseRecord bytes = some r →
    profileValid r.profile = true ∧ bytes.getD 0 0 = 0x5A#8 ∧ bytes.getD 1 0 = 0x01#8
      ∧ crc (bytes.take (67 + 4 * u8 bytes 2)) = 0#16 ∧ 2 ≤ u8 bytes 2 ∧ u8 bytes 2 ≤ 16

/-! ## Arithmetic and the grade -/

/-- The roundings and the clamp (00_scope.md, Conventions), and with them the resistance of a pulse (R46), its value at 25 °C
(R47) and the resistance ratio (R65): half up is the nearest integer with halves upward, half away from zero its mirror
image; the factor is clamped to 250…4000, taking the end it has passed, and the results saturate, the ratio exactly where the
quotient reaches 65,535. -/
def Obligations.Arithmetic : Prop :=
  (∀ n d : Nat, 0 < d → 2 * d * roundHalfUp n d ≤ 2 * n + d ∧ 2 * n + d < 2 * d * (roundHalfUp n d + 1))
    ∧ (∀ (n : Int) (d : Nat), 0 < d →
        2 * (d : Int) * roundHalfUpInt n d ≤ 2 * n + d ∧ 2 * n + d < 2 * (d : Int) * (roundHalfUpInt n d + 1))
    ∧ (∀ (n d : Nat), 0 < d → roundHalfAway n d = roundHalfUp n d ∧ roundHalfAway (-(n : Int)) d = -(roundHalfUp n d : Int))
    ∧ (∀ lo hi x : Int, lo ≤ hi → lo ≤ clamp lo hi x ∧ clamp lo hi x ≤ hi ∧ (lo ≤ x → x ≤ hi → clamp lo hi x = x)
        ∧ (x < lo → clamp lo hi x = lo) ∧ (hi < x → clamp lo hi x = hi))
    ∧ (∀ dv di : Nat, 0 < di → resistanceOf dv di = min 16777215 (roundHalfUp (dv * 1000000) di))
    ∧ (∀ (a : Nat) (t : Int), 250 ≤ temperatureFactor a t ∧ temperatureFactor a t ≤ 4000
        ∧ (250 ≤ 1000 + a * (t - 25) → 1000 + a * (t - 25) ≤ 4000 → (temperatureFactor a t : Int) = 1000 + a * (t - 25))
        ∧ (1000 + a * (t - 25) < 250 → temperatureFactor a t = 250)
        ∧ (4000 < 1000 + a * (t - 25) → temperatureFactor a t = 4000))
    ∧ (∀ (a r : Nat) (t : Int), normalised a r t = min 16777215 (roundHalfUp (r * temperatureFactor a t) 1000)
        ∧ (r ≤ 16777215 → a = 0 → normalised a r t = r))
    ∧ (∀ (p : Profile) (r : Nat), 0 < p.ratedResistance → ratioOf p r ≤ 65535
        ∧ (ratioOf p r = 65535 ↔ 65535 * p.ratedResistance ≤ r * 1000)
        ∧ (ratioOf p r < 65535 → ratioOf p r * p.ratedResistance ≤ r * 1000
            ∧ r * 1000 < (ratioOf p r + 1) * p.ratedResistance))

/-- The OCV-to-SOC lookup of a valid table: the end values beyond it, each breakpoint's value at it, the line between two
rounded half up, never falling as the voltage rises, and within 0 to 1000 (R56). -/
def Obligations.SocLookupFollowsTable : Prop :=
  ∀ p : Profile, profileValid p = true →
    (∀ v w : Nat, v ≤ w → socLookup p.ocv v ≤ socLookup p.ocv w ∧ socLookup p.ocv w ≤ 1000)
      ∧ (∀ q ∈ p.ocv, socLookup p.ocv q.mv = q.soc)
      ∧ (∀ v q, p.ocv.head? = some q → v ≤ q.mv → socLookup p.ocv v = q.soc)
      ∧ (∀ v q, p.ocv.getLast? = some q → q.mv ≤ v → socLookup p.ocv v = q.soc)
      ∧ (∀ (pre suf : List OcvPoint) (q r : OcvPoint) (v : Nat), p.ocv = pre ++ q :: r :: suf → q.mv < v → v < r.mv →
          socLookup p.ocv v = q.soc + roundHalfUp ((v - q.mv) * (r.soc - q.soc)) (r.mv - q.mv))

/-- The high point and the low point of a list: the highest and the lowest SOC, the most recent among equals (R34). A capture
appends its point; to a full list of 8 it removes the oldest of the nine that is neither of them, which is never the new one
(R32, R33). -/
def Obligations.ListKeepsExtremes : Prop :=
  (∀ l : List RestPoint, l ≠ [] →
    (∃ h, highPoint l = some h ∧ l[highIndex l]? = some h
        ∧ ∀ j p, l[j]? = some p → p.soc ≤ h.soc ∧ (p.soc = h.soc → j ≤ highIndex l))
      ∧ (∃ w, lowPoint l = some w ∧ l[lowIndex l]? = some w
        ∧ ∀ j p, l[j]? = some p → w.soc ≤ p.soc ∧ (p.soc = w.soc → j ≤ lowIndex l)))
    ∧ (∀ (p : RestPoint) (l : List RestPoint),
      (l.length < 8 → addPoint p l = l ++ [p])
        ∧ (l.length = 8 → ∃ k, addPoint p l = (l ++ [p]).eraseIdx k ∧ k < 8
            ∧ k ≠ highIndex (l ++ [p]) ∧ k ≠ lowIndex (l ++ [p])
            ∧ ∀ j, j < k → j = highIndex (l ++ [p]) ∨ j = lowIndex (l ++ [p])))

/-- The record after an accepted estimate: the raw estimate, ΔQ times 1000 over ΔSOC half up and saturated (R60), the first one
taken outright, later ones smoothed and between
the two values, the count stopping at 255, SOH within 0 to 1000 (R60 to R63). -/
def Obligations.EstimateFoldsIn : Prop :=
  ∀ (p : Profile) (g : GradeRecord) (deltaQ : Int) (deltaSoc : Nat),
    profileValid p = true → 0 < deltaQ → 0 < deltaSoc → deltaSoc ≤ 1000 →
    (∀ c, g.capacity = some c → 1 ≤ c ∧ c ≤ 16777215) →
    rawEstimate deltaQ deltaSoc = min 16777215 (roundHalfUp (deltaQ.toNat * 1000) deltaSoc)
      ∧ 1 ≤ rawEstimate deltaQ deltaSoc ∧ rawEstimate deltaQ deltaSoc ≤ 16777215
      ∧ (withEstimate p (rawEstimate deltaQ deltaSoc) deltaSoc g).estimateCount = min 255 (g.estimateCount + 1)
      ∧ (withEstimate p (rawEstimate deltaQ deltaSoc) deltaSoc g).lastDeltaSoc = some deltaSoc
      ∧ (∃ c soh, (withEstimate p (rawEstimate deltaQ deltaSoc) deltaSoc g).capacity = some c
          ∧ (withEstimate p (rawEstimate deltaQ deltaSoc) deltaSoc g).soh = some soh
          ∧ 1 ≤ c ∧ c ≤ 16777215 ∧ soh ≤ 1000
          ∧ soh = min 1000 (roundHalfUp (c * 1000) p.ratedCapacity)
          ∧ (g.capacity = none → c = rawEstimate deltaQ deltaSoc)
          ∧ (∀ old, g.capacity = some old →
              c = roundHalfUp (old * (16 - p.smoothing) + rawEstimate deltaQ deltaSoc * p.smoothing) 16
                ∧ min old (rawEstimate deltaQ deltaSoc) ≤ c ∧ c ≤ max old (rawEstimate deltaQ deltaSoc)
                ∧ (p.smoothing = 16 → c = rawEstimate deltaQ deltaSoc)))

/-- The class of each metric by its thresholds (R68), and the class of a record: the worst of those present, absent while the
record is incomplete (R69). -/
def Obligations.ClassIsWorst : Prop :=
  (∀ (p : Profile) (v : Nat), p.sB ≤ p.sA → p.sC ≤ p.sB →
      (sohClass p v = .a ↔ p.sA ≤ v) ∧ (sohClass p v = .b ↔ v < p.sA ∧ p.sB ≤ v)
        ∧ (sohClass p v = .c ↔ v < p.sB ∧ p.sC ≤ v) ∧ (sohClass p v = .x ↔ v < p.sC))
    ∧ (∀ a b c v : Nat, a ≤ b → b ≤ c →
      (risingClass a b c v = .a ↔ v ≤ a) ∧ (risingClass a b c v = .b ↔ a < v ∧ v ≤ b)
        ∧ (risingClass a b c v = .c ↔ b < v ∧ v ≤ c) ∧ (risingClass a b c v = .x ↔ c < v))
    ∧ (∀ (p : Profile) (g : GradeRecord),
      (g.capacity = none ∨ g.r25c = none → deriveClass p g = none)
        ∧ (∀ soh ratio, g.capacity.isSome = true → g.r25c.isSome = true → g.soh = some soh → g.ratio = some ratio →
          ∃ k, deriveClass p g = some k
            ∧ classRank (sohClass p soh) ≤ classRank k ∧ classRank (risingClass p.rA p.rB p.rC ratio) ≤ classRank k
            ∧ (∀ d, g.sd = some d → classRank (risingClass p.dA p.dB p.dC d) ≤ classRank k)
            ∧ (k = sohClass p soh ∨ k = risingClass p.rA p.rB p.rC ratio
                ∨ ∃ d, g.sd = some d ∧ k = risingClass p.dA p.dB p.dC d)))

/-- The grade unit's event sets the record with its class derived, and raises the epoch by 1 (255 gives 0) exactly when a
published field has changed (R54, R69). At a rise the table keeps its entries and its pin, every score is the new record's,
every mark is gone and the order is the table's (R127, R137), and the bond engine is told, which may unpin: `EpochRiseAtBond`;
only a pinned entry whose age has passed can then leave (R131). Without one nothing but the record changes. -/
def Obligations.EpochRisesOnChange : Prop :=
  ∀ (g : GradeRecord) (s : State), g.epoch = s.grade.epoch →
    let setting (record : GradeRecord) : State := { s with dom := { s.dom with ret := { s.ret with grade := record } } }
    let record : GradeRecord := { g with gradeClass := deriveClass (prof s) g, epoch := (s.grade.epoch + 1) % 256 }
    let rescored (e : PeerEntry) : PeerEntry :=
      { e with score := scoreOf (prof s) record e.capacity e.r25c e.sd, mark := none }
    let told : State := (setting record).setTable (rescoreTable (prof s) record s.table)
    (gradeEvent g s).grade = { g with
        gradeClass := deriveClass (prof s) g
        epoch := (gradeEvent g s).grade.epoch }
      ∧ ((g.capacity = s.grade.capacity ∧ g.estimateCount = s.grade.estimateCount ∧ g.lastDeltaSoc = s.grade.lastDeltaSoc
            ∧ g.soh = s.grade.soh ∧ g.resistance = s.grade.resistance ∧ g.r25c = s.grade.r25c
            ∧ g.pulseTemperature = s.grade.pulseTemperature ∧ g.sd = s.grade.sd
            ∧ deriveClass (prof s) g = s.grade.gradeClass) →
          (gradeEvent g s).grade.epoch = s.grade.epoch
            ∧ gradeEvent g s = setting { g with gradeClass := deriveClass (prof s) g })
      ∧ (¬ (g.capacity = s.grade.capacity ∧ g.estimateCount = s.grade.estimateCount
            ∧ g.lastDeltaSoc = s.grade.lastDeltaSoc
            ∧ g.soh = s.grade.soh ∧ g.resistance = s.grade.resistance ∧ g.r25c = s.grade.r25c
            ∧ g.pulseTemperature = s.grade.pulseTemperature ∧ g.sd = s.grade.sd
            ∧ deriveClass (prof s) g = s.grade.gradeClass) →
          (gradeEvent g s).grade.epoch = (s.grade.epoch + 1) % 256
            ∧ gradeEvent g s = bondEpochRise s.grade.gradeClass told
            ∧ told.table.pin = s.table.pin ∧ told.table.entries.Perm (s.table.entries.map rescored)
            ∧ (TableOrdered s → TableOrdered told)
            ∧ (∀ e ∈ s.table.entries,
                (s.table.pin = some e.number →
                  s.seconds < e.lastHeard + (prof s).peerAgeLimit * (prof s).announceInterval) →
                rescored e ∈ (gradeEvent g s).table.entries)
            ∧ ∀ e ∈ (gradeEvent g s).table.entries, e.mark = none
                ∧ e.score = scoreOf (prof s) (gradeEvent g s).grade e.capacity e.r25c e.sd)

/-- An own epoch rise at the bond engine: the readiness test in UNREADY (R140), the table of R141, and the class change of
R156, with the RELEASE to a partner and the withdrawal of a queued PROPOSE (R143; one the queue took is the newest to the
target, log entry 16). Each exit is given whole, by `unengaged`: the engagement's timers, pin and PAIR-EN gone, the class and
the report of a bond by log entry 13, and nothing else changed. `before` is the class before the event. -/
def Obligations.EpochRiseAtBond : Prop :=
  ∀ (before : Option GradeClass) (s : State),
    let t := bondEpochRise before s
    let ready : Prop := recordComplete s.grade = true ∧ s.link.mode = .up ∧ s.ret.activity = .active
    let own : BondState := if s.grade.gradeClass = some .x then .rejected else .free
    let becomes (b : BondState) : State :=
      { s with dom := { s.dom with ret := { s.ret with bondState := b, engaged := none } } }
    (s.ret.bondState = .unready → (ready → (s.grade.gradeClass = some .x → t = becomes .rejected)
          ∧ (∀ k, s.grade.gradeClass = some k → k ≠ .x → t = becomes .free))
        ∧ (¬ ready ∨ s.grade.gradeClass = none → t = s))
      ∧ (recordComplete s.grade = false → t.ret.bondState = .unready)
      ∧ (recordComplete s.grade = false → ∀ n, s.ret.bondState = .bonded ∨ s.ret.bondState = .bondedSilent →
          s.ret.engaged = some n → t.link = offerFrame s.link (releaseFrame s n .regrade))
      ∧ (recordComplete s.grade = true → s.ret.bondState = .free →
          t.ret.bondState = if s.grade.gradeClass = some .x then .rejected else .free)
      ∧ (recordComplete s.grade = true → s.ret.bondState = .rejected →
          t.ret.bondState = if s.grade.gradeClass = some .x then .rejected else .free)
      ∧ (recordComplete s.grade = true → s.ret.bondState = .proposing ∨ s.ret.bondState = .held →
          (s.grade.gradeClass = before → t = s)
            ∧ (s.grade.gradeClass ≠ before → t.ret.bondState = (if s.grade.gradeClass = some .x then .rejected else .free)
                ∧ t.ret.engaged = none ∧ t.table.pin = none ∧ t.bond.replyTimer = none ∧ t.bond.holdTimer = none))
      ∧ (recordComplete s.grade = false ∨ s.grade.gradeClass ≠ before →
          (s.ret.bondState = .proposing → ∀ n, s.ret.engaged = some n → t.link = (withoutPropose n s).link)
            ∧ (s.ret.bondState = .held → t.link = s.link))
      ∧ (recordComplete s.grade = true → s.ret.bondState = .bonded →
          (s.grade.gradeClass = s.bond.bondClass ∨ s.ret.freeze = true → t = s)
            ∧ (s.grade.gradeClass ≠ s.bond.bondClass → s.ret.freeze = false →
                t.ret.bondState = (if s.grade.gradeClass = some .x then .rejected else .free)
                  ∧ t.ret.engaged = none ∧ t.table.pin = none ∧ t.bond.pairEn = false
                  ∧ ∀ n, s.ret.engaged = some n → t.link = offerFrame s.link (releaseFrame s n .classChange)))
      ∧ (recordComplete s.grade = true → s.ret.bondState = .bondedSilent → t = s)
      ∧ (s.ret.bondState = .free ∨ s.ret.bondState = .rejected →
          (recordComplete s.grade = false → t = unengaged .unready s)
            ∧ (recordComplete s.grade = true → t = if own = s.ret.bondState then s else unengaged own s))
      ∧ (s.ret.bondState = .held → (recordComplete s.grade = false → t = unengaged .unready s)
          ∧ (recordComplete s.grade = true → s.grade.gradeClass ≠ before → t = unengaged own s))
      ∧ (s.ret.bondState = .proposing → ∀ n, s.ret.engaged = some n →
          (recordComplete s.grade = false → t = unengaged .unready (withoutPropose n s))
            ∧ (recordComplete s.grade = true → s.grade.gradeClass ≠ before → t = unengaged own (withoutPropose n s)))
      ∧ (s.ret.bondState = .bonded ∨ s.ret.bondState = .bondedSilent → ∀ n, s.ret.engaged = some n →
          let releases (code : Byte) : State := offering (byteOf n) 0x07#8 [code] s
          (recordComplete s.grade = false → t = unengaged .unready (releases 0x02#8))
            ∧ (recordComplete s.grade = true → s.ret.bondState = .bonded → s.ret.freeze = false →
                s.grade.gradeClass ≠ s.bond.bondClass → t = unengaged own (releases 0x03#8)))

/-! ## The measurement commands and the rest detector -/

/-- A pulse taken in RUN: one count in its direction, the residue moved by 1; at ±N the residue is 0 again and the charge
counter takes the quantum within its limits, with a continuity break when the quantum reaches a limit or is discarded
there (R1, R2, R4, R5, R36); the residue stays within −(N−1)…+(N−1). Outside RUN a pulse changes nothing. That a node in
FAILED, where N is the holding value, counts like any other in RUN is the model's reading, log entry 37. -/
def Obligations.ChargePulseCounts : Prop :=
  ∀ (d : Direction) (s : State),
    (inRun s = false → exec (.chargePulse d) s = .next s)
      ∧ (inRun s = true → 256 ≤ (prof s).calibration → Config.chargeMin ≤ s.ret.charge → s.ret.charge ≤ Config.chargeMax →
          let n : Int := (prof s).calibration
          let r := s.ret.residue + (if d = .chg then 1 else -1)
          let fe := { s.fe with
            chg := s.fe.chg + (if d = .chg then 1 else 0)
            dsg := s.fe.dsg + (if d = .chg then 0 else 1) }
          let broken (u : State) : State := { u with
            dom := { u.dom with ret := { u.ret with points := [], offered := none } }
            rest := { s.rest with state := .moving, restTimer := none, longTimer := none, reference := none } }
          let after (residue charge : Int) : State :=
            { s with fe := fe, dom := { s.dom with ret := { s.ret with residue := residue, charge := charge } } }
          (r ≠ n → r ≠ -n → exec (.chargePulse d) s = .next (settle (after r s.ret.charge)))
            ∧ (r = n → s.ret.charge + 1 < 8388607 → exec (.chargePulse d) s = .next (settle (after 0 (s.ret.charge + 1))))
            ∧ (r = n → 8388607 ≤ s.ret.charge + 1 →
                exec (.chargePulse d) s = .next (settle (broken (after 0 8388607))))
            ∧ (r = -n → -8388608 < s.ret.charge - 1 →
                exec (.chargePulse d) s = .next (settle (after 0 (s.ret.charge - 1))))
            ∧ (r = -n → s.ret.charge - 1 ≤ -8388608 →
                exec (.chargePulse d) s = .next (settle (broken (after 0 (-8388608)))))
            ∧ (-n < s.ret.residue → s.ret.residue < n → ∀ t, exec (.chargePulse d) s = .next t →
                -n < t.ret.residue ∧ t.ret.residue < n))

/-- The front end at a window close: the next window open with both counts 0, and the closed window's record, which becomes
the last sample; the integrity flags are set by a faulted window (R6, R8, R9, R10, R12, R13). The charge count, the link's
FIFO and the commissioning state are left as they were. While a bond stands after the close, PAIR-EN is tested with the
record's voltage (R157), and no close but a return close touches the bond state or the rest of the bond engine; that the
test comes after the pulse engine's part is log entry 14. -/
def Obligations.WindowCloseForms : Prop :=
  ∀ (v : Int) (s : State), inRun s = true → s.fe.window.isSome = true →
    ∃ t record, exec (.windowClose v) s = .next t
      ∧ record.seconds = s.seconds ∧ record.chg = s.fe.chg ∧ record.dsg = s.fe.dsg
      ∧ record.voltage = (clamp 0 65535 v).toNat ∧ record.cell = roundHalfUp record.voltage (prof s).series
      ∧ record.current = clamp (-2000000) 2000000
          (roundHalfAway (((s.fe.chg : Int) - s.fe.dsg) * 3600000) (windowMs (prof s).gateCode * (prof s).calibration))
      ∧ (record.faulted = true ↔ tolerancePulses (prof s).toleranceCode < min s.fe.chg s.fe.dsg)
      ∧ t.fe = { s.fe with
          window := some (windowMs (prof s).gateCode)
          chg := 0
          dsg := 0
          lastSample := some record
          lastVoltage := some ⟨record.voltage, record.cell⟩
          integrityFlag := s.fe.integrityFlag || record.faulted
          newFault := s.fe.newFault || record.faulted }
      ∧ t.ret.charge = s.ret.charge ∧ t.ret.residue = s.ret.residue ∧ t.ret.activity = s.ret.activity
      ∧ t.ret.campaign = s.ret.campaign ∧ t.ret.number = s.ret.number ∧ t.ret.freeze = s.ret.freeze
      ∧ t.link.fifo = s.link.fifo ∧ t.fp = s.fp ∧ t.comm.state = s.comm.state ∧ t.supply = s.supply
      ∧ (s.pulse.state ≠ .returnCheck → t.ret.bondState = s.ret.bondState ∧ t.ret.engaged = s.ret.engaged
          ∧ t.bond = { s.bond with pairEn := t.bond.pairEn } ∧ t.table = s.table
          ∧ (bondStands s.ret.bondState = false → t.bond.pairEn = s.bond.pairEn))
      ∧ (bondStands t.ret.bondState = true →
          (∀ report, s.bond.report = some report → ∀ partner, report.voltage = some partner →
              (t.bond.pairEn = true ↔ s.bond.pairEn = true ∨
                (s.seconds ≤ report.time + 2 * (prof s).announceInterval
                  ∧ absDiff record.voltage partner ≤ (prof s).joinLimit)))
            ∧ (s.bond.report.bind (fun report => report.voltage) = none → t.bond.pairEn = s.bond.pairEn))

/-- A window close at the rest detector, with no pulse in flight: a faulted record is a continuity break; a clean record at or
below the threshold begins SETTLING from MOVING; one above it ends a rest; otherwise only the front end changes (R12, R15,
R20, R22, R23, R36), and, while a bond stands, PAIR-EN by its test with the record's voltage (R157). -/
def Obligations.WindowCloseAtRest : Prop :=
  ∀ (v : Int) (s : State), inRun s = true → s.fe.window.isSome = true → s.pulse.state = .idle →
    let record := closeRecord v s
    let near : Bool := match s.bond.report with
      | some ⟨some partner, heard⟩ => decide (s.seconds ≤ heard + 2 * (prof s).announceInterval
          ∧ absDiff record.voltage partner ≤ (prof s).joinLimit)
      | _ => false
    let u : State := { closeWindow record s with
      bond := { s.bond with pairEn := s.bond.pairEn || (bondStands s.ret.bondState && near) } }
    let quiet := record.current.natAbs ≤ (prof s).restThreshold
    let moved := { u with rest := { s.rest with state := .moving, restTimer := none, longTimer := none, reference := none } }
    (record.faulted = true → exec (.windowClose v) s = .next (settle { moved with
        dom := { s.dom with ret := { s.ret with points := [], offered := none } } }))
      ∧ (record.faulted = false → s.ret.activity = .dormant → exec (.windowClose v) s = .next (settle u))
      ∧ (record.faulted = false → s.ret.activity = .active → s.rest.state = .moving → quiet →
          exec (.windowClose v) s = .next (settle
            { u with rest := { s.rest with state := .settling, restTimer := some (s.seconds + (prof s).restTime * 60) } }))
      ∧ (record.faulted = false → s.ret.activity = .active → s.rest.state = .moving → ¬ quiet →
          exec (.windowClose v) s = .next (settle u))
      ∧ (record.faulted = false → s.ret.activity = .active → s.rest.state ≠ .moving → quiet →
          exec (.windowClose v) s = .next (settle u))
      ∧ (record.faulted = false → s.ret.activity = .active →
          s.rest.state = .settling ∨ s.rest.state = .capturePending ∨ s.rest.state = .rested
            ∨ (s.rest.state = .postPulseSettling ∧ s.rest.restTimer.isSome = true) → ¬ quiet →
          exec (.windowClose v) s = .next (settle moved))

/-- A window close in PULSING: the window count rises, a faulted record spoils the pulse, and the record that brings the count
to n + 1 is the pulse-end sample and ends the pulse (R42, R43, R45). The rest detector takes the record as at any other time:
a faulted one breaks continuity (R36), and one inside the pulse has no other effect there (R28). -/
def Obligations.WindowClosePulsing : Prop :=
  ∀ (v : Int) (s : State), inRun s = true → s.fe.window.isSome = true → s.pulse.state = .pulsing →
    let record := closeRecord v s
    let n := ((prof s).pulseWidth + windowMs (prof s).gateCode - 1) / windowMs (prof s).gateCode
    ∃ t, exec (.windowClose v) s = .next t ∧ t.grade = s.grade ∧ t.ret.lastPulse = s.ret.lastPulse
      ∧ t.pulse.windows = s.pulse.windows + 1 ∧ t.pulse.spoiled = (s.pulse.spoiled || record.faulted)
      ∧ t.pulse.pre = s.pulse.pre ∧ t.rest = restAfterRecord record s
      ∧ t.ret.points = (if record.faulted = true then [] else s.ret.points)
      ∧ t.ret.offered = (if record.faulted = true then none else s.ret.offered)
      ∧ (s.pulse.windows + 1 ≠ n + 1 → t.pulse.state = .pulsing ∧ t.pulse.post = s.pulse.post)
      ∧ (s.pulse.windows + 1 = n + 1 → t.pulse.state = .returnCheck
          ∧ t.pulse.post = s.fe.lastTemperature.map (fun k => ⟨record.voltage, record.current, k⟩))

/-- A window close in RETURN CHECK: the engine is in IDLE with both samples absent; a valid result sets R, R25C, the pulse
temperature, the ratio and the last valid pulse time, and the class, the epoch, the table and the bond engine follow as at
every event of the grade unit (`EpochRisesOnChange`); any other leaves them as they were (R44, R46, R47, R48, R54, R55, R64,
R65, R69). PAIR-EN while a bond stands is `WindowCloseForms`. The rest detector takes the record first, a faulted one as a
continuity break, and then the report that the pulse is over, which starts its second timer in POST-PULSE SETTLING (R28, R36;
the order is log entry 14). -/
def Obligations.ReturnCheckJudges : Prop :=
  ∀ (v : Int) (s : State), inRun s = true → s.fe.window.isSome = true → s.pulse.state = .returnCheck →
    ∀ pre, s.pulse.pre = some pre → ∀ post, s.pulse.post = some post →
    let record := closeRecord v s
    let valid : Prop := s.pulse.spoiled = false ∧ record.faulted = false ∧ post.v1 < pre.v0
      ∧ ((prof s).minimumStep : Int) ≤ pre.i0 - post.i1 ∧ (record.current - pre.i0).natAbs ≤ (prof s).restThreshold
    let rest := restAfterRecord record s
    let r := resistanceOf (pre.v0 - post.v1) (pre.i0 - post.i1).toNat
    let r25c := normalised (prof s).alpha r post.temperature
    let told := gradeEvent { s.grade with
      resistance := some r, r25c := some r25c, pulseTemperature := some post.temperature, ratio := some (ratioOf (prof s) r25c) } s
    ∃ t, exec (.windowClose v) s = .next (settle t) ∧ t.pulse = { s.pulse with state := .idle, pre := none, post := none }
      ∧ t.rest = (if rest.state = .postPulseSettling
          then { rest with restTimer := some (s.seconds + (prof s).restTime * 60) } else rest)
      ∧ t.ret.points = (if record.faulted = true then [] else s.ret.points)
      ∧ t.ret.offered = (if record.faulted = true then none else s.ret.offered)
      ∧ (valid → t.ret = { told.ret with lastPulse := some s.seconds } ∧ t.table = told.table ∧ t.link = told.link
          ∧ t.bond = { told.bond with pairEn := t.bond.pairEn }
          ∧ (bondStands told.ret.bondState = false → t.bond = told.bond))
      ∧ (¬ valid → t.ret = { s.ret with points := t.ret.points, offered := t.ret.offered } ∧ t.table = s.table
          ∧ t.link = s.link ∧ t.bond = { s.bond with pairEn := t.bond.pairEn }
          ∧ (bondStands s.ret.bondState = false → t.bond = s.bond))
      ∧ (valid →
          t.grade.resistance = some (resistanceOf (pre.v0 - post.v1) (pre.i0 - post.i1).toNat)
            ∧ t.grade.r25c = some (normalised (prof s).alpha
                (resistanceOf (pre.v0 - post.v1) (pre.i0 - post.i1).toNat) post.temperature)
            ∧ t.grade.pulseTemperature = some post.temperature ∧ t.ret.lastPulse = some s.seconds
            ∧ t.grade.capacity = s.grade.capacity ∧ t.grade.sd = s.grade.sd
            ∧ t.grade.estimateCount = s.grade.estimateCount)
      ∧ (¬ valid → t.grade = s.grade ∧ t.ret.lastPulse = s.ret.lastPulse)
      ∧ (record.faulted = false → s.rest.state = .postPulseSettling → s.rest.restTimer = none → s.ret.activity = .active →
          t.rest = { s.rest with restTimer := some (s.seconds + (prof s).restTime * 60) })

/-- The seconds counter advances in RUN, HOLD and RESET, in both copies, and stops at its last value; in RUN the second brings
a temperature sample, in HOLD and RESET nothing else (R11, R189). The sample at a second of the stopped counter is the model's
choice, log entry 30, the reading in thousandths of a °C is log entry 18, and the count of a FAILED node log entry 37. -/
def Obligations.SecondAdvances : Prop :=
  ∀ (c : Int) (s : State),
    let dom := { s.dom with
      seconds := if s.dom.seconds < 4294967295 then s.dom.seconds + 1 else s.dom.seconds
      secondsCopy := if s.dom.secondsCopy < 4294967295 then s.dom.secondsCopy + 1 else s.dom.secondsCopy }
    let sample := clamp (-40) 125 (roundHalfUpInt c 1000)
    (s.supply.state = .off → exec (.secondsCounterIncrement c) s = .next s)
      ∧ (s.supply.state = .hold ∨ s.supply.state = .reset →
          exec (.secondsCounterIncrement c) s = .next (settle { s with dom := dom }))
      ∧ (s.supply.state = .run →
          (s.rest.state ≠ .capturePending ∨ s.ret.activity = .dormant ∨ inCaptureWindow (prof s) sample = false) →
          exec (.secondsCounterIncrement c) s =
            .next (settle { s with dom := dom, fe := { s.fe with lastTemperature := some sample } }))
      ∧ (s.supply.state = .run → s.rest.state = .capturePending → s.ret.activity = .active →
          inCaptureWindow (prof s) sample = true →
          exec (.secondsCounterIncrement c) s =
            .next (settle (capture { s with dom := dom, fe := { s.fe with lastTemperature := some sample } })))

/-- A capture: the point of R26 into the list, then a pulse (R39, R40) and POST-PULSE SETTLING (R27), or RESTED with its
reference and timer (R29). With the point the extreme pair is examined, and the pair last offered, the record, the removal
requests, the table, the bond engine and the queue are what that leaves (R34; `PairIsExamined`). The point enters the list
before the pulse is offered by log entry 14. -/
def Obligations.CaptureTakesPoint : Prop :=
  ∀ s : State, ∀ v, s.fe.lastVoltage = some v → ∀ k, s.fe.lastTemperature = some k →
    ∀ record, s.fe.lastSample = some record →
    let soc := socLookup (prof s).ocv v.cell
    let starts : Prop := s.pulse.state = .idle
      ∧ (s.grade.r25c = none ∨ s.ret.lastPulse = none
          ∨ s.ret.lastPulse.getD 0 + (prof s).pulseInterval * 3600 ≤ s.seconds)
      ∧ (prof s).pulseLow ≤ k ∧ k ≤ (prof s).pulseHigh
    let examined := examinePair { s with dom := { s.dom with ret := { s.ret with
      points := addPoint ⟨s.seconds, v.mv, v.cell, soc, s.ret.charge, k⟩ s.ret.points } } }
    (capture s).ret.points = addPoint ⟨s.seconds, v.mv, v.cell, soc, s.ret.charge, k⟩ s.ret.points
      ∧ (capture s).ret = examined.ret ∧ (capture s).rest.removals = examined.rest.removals
      ∧ (capture s).table = examined.table ∧ (capture s).bond = examined.bond ∧ (capture s).link = examined.link
      ∧ (capture s).ret.charge = s.ret.charge ∧ (capture s).ret.residue = s.ret.residue ∧ (capture s).fe = s.fe
      ∧ (capture s).rest.restTimer = none
      ∧ (starts → (capture s).pulse = ⟨.pulsing, 0, false, some ⟨record.voltage, record.current⟩, none⟩
          ∧ (capture s).rest.state = .postPulseSettling ∧ (capture s).rest.longTimer = none
          ∧ (capture s).rest.reference = none)
      ∧ (¬ starts → (capture s).pulse = s.pulse ∧ (capture s).rest.state = .rested
          ∧ (capture s).rest.longTimer = some (s.seconds + (prof s).longRestTime * 3600)
          ∧ (capture s).rest.reference = some ⟨v.mv, soc, s.seconds, k⟩)

/-- The examination of the extreme pair after a change of the list: the pair last offered is not offered again; a new one is
recorded, and is refused for a narrow span, brings a removal request of its older point for an inconsistent one, or an
estimate, with SOH, the class, the epoch, the table and the bond engine following as at every event of the grade unit (R34,
R54, R55, R58 to R63, R69; `EpochRisesOnChange`). A removal request takes the named point out and the pair is examined again;
a request whose point is gone changes only the waiting requests (R35). That the requests wait in the state is log entry 17. -/
def Obligations.PairIsExamined : Prop :=
  let folded (s : State) (h l : RestPoint) : Nat :=
    foldEstimate (prof s) s.grade.capacity (rawEstimate (h.charge - l.charge) (h.soc - l.soc))
  (∀ s : State, ∀ h, highPoint s.ret.points = some h → ∀ l, lowPoint s.ret.points = some l →
      let offered := some ⟨h.time, l.time⟩
      let recorded := { s with dom := { s.dom with ret := { s.ret with offered := offered } } }
      (s.ret.points.length < 2 ∨ s.ret.offered = offered → examinePair s = s)
        ∧ (2 ≤ s.ret.points.length → s.ret.offered ≠ offered →
            (h.soc - l.soc < (prof s).minimumWindow → examinePair s = recorded)
              ∧ ((prof s).minimumWindow ≤ h.soc - l.soc → h.charge ≤ l.charge →
                  examinePair s =
                    { recorded with rest := { s.rest with removals := s.rest.removals ++ [min h.time l.time] } })
              ∧ ((prof s).minimumWindow ≤ h.soc - l.soc → l.charge < h.charge →
                  (examinePair s).ret.offered = offered ∧ (examinePair s).ret.points = s.ret.points
                    ∧ (examinePair s).grade.lastDeltaSoc = some (h.soc - l.soc)
                    ∧ (examinePair s).grade.capacity = some (foldEstimate (prof s) s.grade.capacity
                        (rawEstimate (h.charge - l.charge) (h.soc - l.soc)))
                    ∧ (examinePair s).grade.estimateCount = min 255 (s.grade.estimateCount + 1)
                    ∧ examinePair s = gradeEvent { s.grade with
                        capacity := some (folded s h l)
                        estimateCount := min 255 (s.grade.estimateCount + 1)
                        lastDeltaSoc := some (h.soc - l.soc)
                        soh := some (min 1000 (roundHalfUp (folded s h l * 1000) (prof s).ratedCapacity)) } recorded)))
    ∧ (∀ s : State, inRun s = true → ∀ k rest, s.rest.removals = k :: rest →
      let u := { s with rest := { s.rest with removals := rest } }
      ((∀ p ∈ s.ret.points, p.time ≠ k) → exec .removalRequest s = .next (settle u))
        ∧ ((∃ p ∈ s.ret.points, p.time = k) →
            exec .removalRequest s = .next (settle (examinePair
              { u with dom := { s.dom with ret := { s.ret with
                  points := s.ret.points.eraseP (fun p => p.time == k) } } }))))

/-- The rest timer's expiry: a capture or CAPTURE PENDING in SETTLING by the temperature, RESTED in POST-PULSE SETTLING (R24,
R28, R29, R31). The long-rest timer's expiry: with the temperature outside the capture window RESTED is entered anew and
nothing is captured; inside it SD is formed when the reference's temperature was inside too, as an event of the grade unit with
its class, epoch, table and bond engine (`EpochRisesOnChange`), and then a point is captured (R30, R54, R55, R66, R67, R69). A
timer is due once the counter has reached its value by log entry 5, and finds the temperature sample of its own
increment by log entry 32. -/
def Obligations.RestTimersExpire : Prop :=
  (∀ s : State, inRun s = true → ∀ e, s.rest.restTimer = some e → e ≤ s.seconds →
      ∀ v, s.fe.lastVoltage = some v → ∀ k, s.fe.lastTemperature = some k →
      let stopped := { s with rest := { s.rest with restTimer := none } }
      (s.rest.state = .settling → (prof s).captureLow ≤ k → k ≤ (prof s).captureHigh →
          exec .restTimerExpiry s = .next (settle (capture stopped)))
        ∧ (s.rest.state = .settling → k < (prof s).captureLow ∨ (prof s).captureHigh < k →
          exec .restTimerExpiry s =
            .next (settle { s with rest := { s.rest with state := .capturePending, restTimer := none } }))
        ∧ (s.rest.state = .postPulseSettling →
          exec .restTimerExpiry s = .next (settle { s with rest := { s.rest with
            state := .rested
            restTimer := none
            longTimer := some (s.seconds + (prof s).longRestTime * 3600)
            reference := some ⟨v.mv, socLookup (prof s).ocv v.cell, s.seconds, k⟩ } })))
    ∧ (∀ s : State, inRun s = true → s.rest.state = .rested → ∀ e, s.rest.longTimer = some e → e ≤ s.seconds →
      ∀ ref, s.rest.reference = some ref → ∀ v, s.fe.lastVoltage = some v → ∀ k, s.fe.lastTemperature = some k →
      let soc := socLookup (prof s).ocv v.cell
      let ended : State := { s with rest := { s.rest with longTimer := none, reference := none } }
      (inCaptureWindow (prof s) k = false →
          exec .longRestExpiry s = .next (settle { s with rest := { s.rest with
            restTimer := none
            longTimer := some (s.seconds + (prof s).longRestTime * 3600)
            reference := some ⟨v.mv, soc, s.seconds, k⟩ } }))
        ∧ (inCaptureWindow (prof s) k = true → inCaptureWindow (prof s) ref.temperature = true →
          exec .longRestExpiry s = .next (settle (capture (gradeEvent { s.grade with
            sd := some (if ref.soc < soc then 0
              else min 65535 (roundHalfUp ((ref.soc - soc) * 86400) (s.seconds - ref.time))) } ended))))
        ∧ (inCaptureWindow (prof s) k = true → inCaptureWindow (prof s) ref.temperature = false →
          exec .longRestExpiry s = .next (settle (capture ended)))
        ∧ (inCaptureWindow (prof s) k = true →
          ∃ t, exec .longRestExpiry s = .next t
            ∧ t.ret.points = addPoint ⟨s.seconds, v.mv, v.cell, soc, s.ret.charge, k⟩ s.ret.points
            ∧ (inCaptureWindow (prof s) ref.temperature = true →
                t.grade.sd = some (if ref.soc < soc then 0
                  else min 65535 (roundHalfUp ((ref.soc - soc) * 86400) (s.seconds - ref.time))))
            ∧ (inCaptureWindow (prof s) ref.temperature = false → t.grade.sd = s.grade.sd)
            ∧ t.grade.r25c = s.grade.r25c ∧ t.ret.charge = s.ret.charge))

/-! ## The timers of the link and of the bond engine, and the numbering -/

/-- The announce timer's expiry offers an ANNOUNCE to every node and starts the timer for one interval (R110, R111); the
proposal timer's starts it for one interval and, in FREE and unfrozen with a candidate, sends a PROPOSE to the head of the
candidate order, pins it, and starts the reply timer (R142, R143). Whether the queue took the PROPOSE is kept for its
withdrawal, log entry 16. A command for a stopped timer changes nothing by log entry
3. -/
def Obligations.ScheduleTimersExpire : Prop :=
  ∀ s : State, inRun s = true →
    let own := byteOf (s.comm.held.getD 0)
    let again := { s with bond := { s.bond with proposalTimer := some ((prof s).proposalInterval * 1000) } }
    (s.fp.announceTimer.isSome = true → exec .announceTimerExpiry s = .next (settle { s with
        fp := { s.fp with announceTimer := some ((prof s).announceInterval * 1000) }
        link := offerFrame s.link ⟨0xFF#8, own, 0x02#8, []⟩ }))
      ∧ (s.fp.announceTimer = none → exec .announceTimerExpiry s = .next s)
      ∧ (s.bond.proposalTimer = none → exec .proposalTimerExpiry s = .next s)
      ∧ (s.bond.proposalTimer.isSome = true →
          s.ret.bondState ≠ .free ∨ s.ret.freeze = true ∨ candidates (prof s) s.grade s.table = [] →
          exec .proposalTimerExpiry s = .next (settle again))
      ∧ (s.bond.proposalTimer.isSome = true → s.ret.bondState = .free → s.ret.freeze = false →
          ∀ e rest, candidates (prof s) s.grade s.table = e :: rest →
          let offered := offerFrame s.link
            ⟨byteOf e.number, own, 0x03#8, be16 (e.score.getD 0) ++ [byteOf s.grade.epoch]⟩
          exec .proposalTimerExpiry s = .next (settle { s with
            link := offered
            dom := { s.dom with ret := { s.ret with bondState := .proposing, engaged := some e.number } }
            table := { s.table with pin := some e.number }
            bond := { again.bond with
              replyTimer := some (prof s).replyTime, proposeTaken := decide (offered.queue ≠ s.link.queue) } }))

/-- The reply timer marks its target SILENT and frees the engine (R149); the hold timer frees it without a mark (R151); the
partner timer ends the bond, or with the freeze flag set leaves BONDED-SILENT with the timer stopped (R153). Every exit from
an engagement makes the bond class and the partner report absent by log entry 13, the PROPOSE withdrawn, if the queue took it,
is the newest to the target by log entry 16, and a command for a stopped timer changes nothing by log entry 3. -/
def Obligations.BondTimersExpire : Prop :=
  ∀ s : State, inRun s = true →
    (s.bond.replyTimer.isSome = true → s.ret.bondState = .proposing → ∀ n, s.ret.engaged = some n →
        exec .replyTimerExpiry s = .next (settle (unengaged .free (marked n .silent (withoutPropose n s)))))
      ∧ (s.bond.holdTimer.isSome = true → s.ret.bondState = .held →
        exec .holdTimerExpiry s = .next (settle (unengaged .free s)))
      ∧ (s.bond.partnerTimer.isSome = true → s.ret.bondState = .bonded → s.ret.freeze = false →
        exec .partnerTimerExpiry s = .next (settle (unengaged .free s)))
      ∧ (s.bond.partnerTimer.isSome = true → s.ret.bondState = .bonded → s.ret.freeze = true →
        exec .partnerTimerExpiry s = .next (settle { s with
          dom := { s.dom with ret := { s.ret with bondState := .bondedSilent } }
          bond := { s.bond with partnerTimer := none } }))
      ∧ (s.bond.replyTimer = none → exec .replyTimerExpiry s = .next s)
      ∧ (s.bond.holdTimer = none → exec .holdTimerExpiry s = .next s)
      ∧ (s.bond.partnerTimer = none → exec .partnerTimerExpiry s = .next s)

/-- CHAIN-IN takes a node in CHAIN WAIT to QUIET WAIT with the quiet timer at 50 ms (R177) and otherwise changes only the pin
and what follows it; the quiet timer's expiry claims the highest number heard plus 1 with an ENUM (R178), or, past 239,
leaves the node without a number, READY, MUTED and on ALERT, with CHAIN-OUT active (R181); the engine is then UNREADY, or,
frozen, stands as it was (R163; the unpinning is log entry 33). A node with a fixed or a retained number passes CHAIN-IN on in
NUMBERING and READY, and a FAILED one too (R170, R176). A command for a stopped timer changes nothing by log entry
3. -/
def Obligations.ChainedNodesNumber : Prop :=
  ∀ s : State,
    let chained (level : Bool) : State := { s with pins := { s.pins with chainIn := level } }
    (inRun s = true → s.comm.numbering = some .chainWait → exec .chainInActive s = .next (settle { chained true with
        comm := { s.comm with numbering := some .quietWait, quietTimer := some 50, claim := none } }))
      ∧ (inRun s = false ∨ s.comm.numbering ≠ some .chainWait → exec .chainInActive s = .next (settle (chained true)))
      ∧ exec .chainInInactive s = .next (settle (chained false))
      ∧ (inRun s = true → s.comm.state = .failed ∨ ((s.comm.state = .numbering ∨ s.comm.state = .ready)
            ∧ (s.comm.method = some .fixed ∨ s.comm.method = some .retained)) →
          s.comm.numbering ≠ some .chainWait →
          (settle (chained true)).pins.chainOut = true ∧ (settle (chained false)).pins.chainOut = false)
      ∧ (inRun s = true → s.comm.quietTimer.isSome = true → s.comm.numbering = some .quietWait → s.comm.highest < 239 →
          exec .quietTimerExpiry s = .next (settle { s with
            comm := { s.comm with
              numbering := some .claiming, quietTimer := none, claim := some (s.comm.highest + 1) }
            link := offerFrame s.link ⟨0xFF#8, 0x00#8, 0x01#8, [byteOf (s.comm.highest + 1), 0x02#8]⟩ }))
      ∧ (inRun s = true → s.comm.quietTimer.isSome = true → s.comm.numbering = some .quietWait → 239 ≤ s.comm.highest →
          ∃ t, exec .quietTimerExpiry s = .next t ∧ t.comm.state = .ready ∧ t.comm.numbering = some .noNumber
            ∧ t.comm.quietTimer = none ∧ t.comm.held = s.comm.held ∧ t.ret.number = s.ret.number
            ∧ t.link.mode = .muted ∧ t.link.queue = [] ∧ t.fp.announceTimer = none ∧ t.table.entries = []
            ∧ t.bond.proposalTimer = none ∧ t.pins.alert = true ∧ t.ret.inForce = s.ret.inForce
            ∧ t.ret.charge = s.ret.charge ∧ t.grade = s.grade ∧ BondMuted s t
            ∧ (s.comm.method = some .chained → t.pins.chainOut = true))
      ∧ (s.comm.quietTimer = none → exec .quietTimerExpiry s = .next s)

/-! ## The link -/

/-- An offer: what the mode refuses, a second ANNOUNCE, ENUM or PROFILE request, and an ANNOUNCE or a segment to a full queue
are not added; any other frame to a full queue takes the place of a queued ANNOUNCE that is not in SENDING; the order is that
of the offers (R95, R96, R99). A withdrawal takes out the newest frame that meets the owner's test, `isEnum` for a chained
claim (R178) and `isProposeTo` for a handshake (R143; log entry 16); the frames behind it move up; a head in SENDING is left
where no other frame meets the test, and where none does the queue stands (R97). `queuedNotSending` says whether there is one
to take. -/
def Obligations.OfferRules : Prop :=
  ∀ (l : Link) (f : Frame) (p : Frame → Bool),
    let u := offerFrame l f
    let w := withdrawFrame l p
    let permitted : Prop := l.mode = .up ∨ (l.mode = .listen ∧ (f.kind = 0x01#8 ∨ isRequest f = true))
    let second : Prop := (f.kind = 0x02#8 ∧ ∃ g ∈ l.queue, g.kind = 0x02#8)
      ∨ (f.kind = 0x01#8 ∧ ∃ g ∈ l.queue, g.kind = 0x01#8) ∨ (isRequest f = true ∧ ∃ g ∈ l.queue, isRequest g = true)
    (u = { l with queue := u.queue, transmitter := u.transmitter })
      ∧ (l.transmitter = .idle ∨ l.transmitter = .wait → u.transmitter = if u.queue = [] then .idle else .wait)
      ∧ (l.transmitter = .sending ∨ l.transmitter = .holdoff → u.transmitter = l.transmitter)
      ∧ (¬ permitted → u.queue = l.queue)
      ∧ (second → u.queue = l.queue)
      ∧ (permitted → ¬ second → l.queue.length < 4 → u.queue = l.queue ++ [f])
      ∧ (l.queue.length = 4 → f.kind = 0x02#8 ∨ isSegment f = true → u.queue = l.queue)
      ∧ (permitted → ¬ second → l.queue.length = 4 → f.kind ≠ 0x02#8 → isSegment f = false →
          ∀ pre g post, l.queue = pre ++ g :: post → g.kind = 0x02#8 → (∀ x ∈ pre, x.kind ≠ 0x02#8) →
            (l.transmitter = .sending → pre ≠ []) → u.queue = pre ++ post ++ [f])
      ∧ (l.queue.length = 4 → (∀ g ∈ l.queue, g.kind ≠ 0x02#8) → u.queue = l.queue)
      ∧ (l.queue.length = 4 → l.transmitter = .sending → ∀ g post, l.queue = g :: post → g.kind = 0x02#8 →
          (∀ x ∈ post, x.kind ≠ 0x02#8) → u.queue = l.queue)
      ∧ (w = { l with queue := w.queue, transmitter := w.transmitter })
      ∧ (l.transmitter = .idle ∨ l.transmitter = .wait → w.transmitter = if w.queue = [] then .idle else .wait)
      ∧ (l.transmitter = .sending ∨ l.transmitter = .holdoff → w.transmitter = l.transmitter)
      ∧ ((∀ g ∈ l.queue, p g = false) → w.queue = l.queue ∧ queuedNotSending l p = false)
      ∧ (∀ pre g post, l.queue = pre ++ g :: post → p g = true → (∀ x ∈ post, p x = false) →
          (l.transmitter = .sending ∧ pre = [] → w.queue = l.queue ∧ queuedNotSending l p = false)
            ∧ (¬ (l.transmitter = .sending ∧ pre = []) → w.queue = pre ++ post ∧ queuedNotSending l p = true))
      ∧ (isEnum f = true ↔ f.kind = 0x01#8)
      ∧ (∀ n, isProposeTo n f = true ↔ f.kind = 0x03#8 ∧ f.dst = byteOf n)

/-- An attempt that released the line for a 1 and reads back a 0 has lost arbitration, and an outcome once shown stands (R90). A
lost arbitration ends the attempt and keeps the frame at the head; the holdoff timer runs, and a holdoff of 0 is over at
once (R90, R93); its expiry leaves WAIT with a frame queued and IDLE without (R93). That the command's bits are sampled first
and that it only samples them where the line has not shown its event is log entry 6; that the expiry of a holdoff that
does not run changes nothing is log entry 3. -/
def Obligations.ArbitrationAndHoldoff : Prop :=
  ∀ (bits : List Bool) (s : State), inRun s = true →
    let u := sampled bits s
    let waiting : TransmitterState := if s.link.queue = [] then .idle else .wait
    (u.link.transmitter = .sending → ∀ a, u.link.attempt = some a → a.outcome = some .lost →
        exec (.arbitrationLoss bits) s = .next (settle { u with link := { u.link with
          transmitter := if (prof s).holdoff = 0 then waiting else .holdoff
          holdoff := if (prof s).holdoff = 0 then none else some (prof s).holdoff
          attempt := none } }))
      ∧ (u.link.transmitter ≠ .sending ∨ (∀ a, u.link.attempt = some a → a.outcome ≠ some .lost) →
          exec (.arbitrationLoss bits) s = .next (settle u))
      ∧ (s.link.transmitter = .holdoff → s.link.holdoff.isSome = true →
          exec .holdoffExpiry s = .next (settle { s with link := { s.link with transmitter := waiting, holdoff := none } }))
      ∧ (s.link.holdoff = none → exec .holdoffExpiry s = .next s)
      ∧ (u.link.receiver.state ≠ .off → ∀ a, u.link.attempt = some a →
          (a.outcome = none → a.bits[a.sent]? = some true →
              (sampled (bits ++ [false]) s).link.attempt = some { a with outcome := some .lost })
            ∧ (a.outcome ≠ none → ∀ b, (sampled (bits ++ [b]) s).link.attempt = some a))
      ∧ u.link.queue = s.link.queue ∧ u.link.fifo = s.link.fifo ∧ u.ret = s.ret ∧ u.comm = s.comm

/-- An attempt begins in WAIT on an idle line with the frame at the head, on the bits of its content and check (R80, R83, R89);
an ANNOUNCE takes its content and source then, which clears the new-fault mark and the new-overrun mark (R14, R88, R112).
Elsewhere the command only samples its bits: the model's choice, log entries 3 and 6. -/
def Obligations.AttemptBegins : Prop :=
  ∀ (bits : List Bool) (s : State), inRun s = true →
    let u := sampled bits s
    let attempt (g : Frame) : Attempt := ⟨g, lineBits (frameContent g), 0, none⟩
    let own := byteOf (s.comm.held.getD 0)
    (u.link.transmitter = .wait → 11 ≤ u.link.receiver.recessiveRun → ∀ f rest, s.link.queue = f :: rest →
        (f.kind ≠ 0x02#8 → exec (.attemptBegin bits) s = .next (settle { u with
            link := { u.link with transmitter := .sending, attempt := some (attempt f) } }))
          ∧ (f.kind = 0x02#8 → exec (.attemptBegin bits) s = .next (settle { u with
            link := { u.link with
              transmitter := .sending
              attempt := some (attempt { f with src := own, payload := announcePayload u })
              newOverrun := false }
            fe := { s.fe with newFault := false } })))
      ∧ (u.link.transmitter ≠ .wait ∨ s.link.queue = [] ∨ u.link.receiver.recessiveRun < 11 →
          exec (.attemptBegin bits) s = .next (settle u))

/-- A bit read back as sent takes the attempt on, the last one to its completion (R92); a line driven for a 0 that reads 1 is
a line fault (R91). A line fault removes the frame from the queue and sets the line fault flag (R91); a completion removes it
and clears the flag (R92); either ends the attempt and begins the holdoff, and a holdoff of 0 is over at once (R93); and a
completed ANNOUNCE clears the cold marker it carried, and each sticky flag it carried whose mark is still clear (R14, R88,
R113, R190); a completed ENUM makes a claiming node NUMBERED and its link UP (R98, R110, R142, R179), and a sharer starts its
broadcast at segment 0, which `settle` feeds to the queue (R173); an ENUM dropped by a line fault is offered again, or sends a
chained node back to QUIET WAIT (R176, R178). A node that is NUMBERED makes the readiness test (R140). The outcome the line
has shown waits for its command by log entry 6. -/
def Obligations.AttemptEnds : Prop :=
  ∀ (bits : List Bool) (s : State), inRun s = true →
    (sampled bits s).link.transmitter = .sending → ∀ a, (sampled bits s).link.attempt = some a →
    let u := sampled bits s
    let waiting : TransmitterState := if s.link.queue.tail = [] then .idle else .wait
    let ended (fault : Bool) : Link := { u.link with
      queue := s.link.queue.tail
      lineFault := fault
      attempt := none
      transmitter := if (prof s).holdoff = 0 then waiting else .holdoff
      holdoff := if (prof s).holdoff = 0 then none else some (prof s).holdoff }
    (a.outcome = some .lineFault →
        (s.comm.numbering ≠ some .claiming ∨ (∀ f, s.link.queue.head? = some f → f.kind ≠ 0x01#8) →
            exec (.transmitLineFault bits) s = .next (settle { u with link := ended true }))
          ∧ (s.comm.numbering = some .claiming → ∀ f, s.link.queue.head? = some f → f.kind = 0x01#8 →
              ∀ n, s.comm.claim = some n →
              (s.comm.method = some .chained → exec (.transmitLineFault bits) s = .next (settle { u with
                  link := ended true
                  comm := { s.comm with numbering := some .quietWait, quietTimer := some 50, claim := none } }))
                ∧ (s.comm.method = some .fixed → exec (.transmitLineFault bits) s = .next (settle { u with
                  link := offerFrame (ended true) ⟨0xFF#8, byteOf n, 0x01#8, [byteOf n, 0x01#8]⟩ }))
                ∧ (s.comm.method = some .retained → exec (.transmitLineFault bits) s = .next (settle { u with
                  link := offerFrame (ended true) ⟨0xFF#8, byteOf n, 0x01#8, [byteOf n, 0x03#8]⟩ }))))
      ∧ (a.outcome = some .complete →
        (a.frame.kind ≠ 0x01#8 → a.frame.kind ≠ 0x02#8 →
            exec (.attemptComplete bits) s = .next (settle { u with link := ended false }))
          ∧ (a.frame.kind = 0x02#8 → ∃ t, exec (.attemptComplete bits) s = .next (settle t)
              ∧ t.link = { ended false with overrunFlag := t.link.overrunFlag }
              ∧ (t.fe.integrityFlag = true ↔ s.fe.integrityFlag = true
                  ∧ ((a.frame.payload.getD 3 0).getLsbD 4 = false ∨ s.fe.newFault = true))
              ∧ (t.link.overrunFlag = true ↔ s.link.overrunFlag = true
                  ∧ ((a.frame.payload.getD 3 0).getLsbD 3 = false ∨ s.link.newOverrun = true))
              ∧ (t.ret.coldMarker = true ↔ s.ret.coldMarker = true ∧ (a.frame.payload.getD 3 0).getLsbD 1 = false)
              ∧ t.link.lineFault = false ∧ t.grade = s.grade ∧ t.table = s.table ∧ t.bond = s.bond ∧ t.comm = s.comm)
          ∧ (a.frame.kind = 0x01#8 → s.comm.numbering = some .claiming → ∀ n, s.comm.claim = some n →
              ∀ m, s.comm.method = some m → ∃ t, exec (.attemptComplete bits) s = .next (settle t)
                ∧ t.link = { ended false with mode := .up }
                ∧ t.comm = { s.comm with
                    state := .ready, numbering := some .numbered, held := some n, claim := none
                    share := if s.ret.source = some .externalMemory ∧ (prof s).sharing = true then some 0 else s.comm.share }
                ∧ t.ret.number = some ⟨n, m⟩ ∧ t.link.mode = .up ∧ t.link.lineFault = false
                ∧ t.fp.announceTimer = some (n * 37 % ((prof s).announceInterval * 1000))
                ∧ t.bond.proposalTimer = some (n * 53 % ((prof s).proposalInterval * 1000))
                ∧ (s.ret.bondState = .unready → recordComplete s.grade = true → s.ret.activity = .active →
                    ∀ k, s.grade.gradeClass = some k → t.ret.bondState = if k = .x then .rejected else .free)
                ∧ (s.ret.bondState = .unready → recordComplete s.grade = false ∨ s.ret.activity = .dormant →
                    t.ret.bondState = .unready)
                ∧ (s.ret.bondState ≠ .unready → t.ret.bondState = s.ret.bondState)
                ∧ t.grade = s.grade ∧ t.ret.charge = s.ret.charge ∧ t.table = s.table))
      ∧ (u.link.receiver.state ≠ .off → a.outcome = none →
          (a.bits[a.sent]? = some false →
              (sampled (bits ++ [true]) s).link.attempt = some { a with outcome := some .lineFault })
            ∧ (∀ b, a.bits[a.sent]? = some b → (sampled (bits ++ [b]) s).link.attempt = some { a with
                sent := a.sent + 1
                outcome := if a.sent + 1 = a.bits.length then some .complete else none }))

/-- A dominant run of 64 bits makes a bus reset due, and one of 1 s the event that sets the line fault flag (R78, R79). A bus
reset puts the receiver in HUNT and the transmitter in IDLE,
empties the FIFO, the queue and the peer table, and ends a handshake in FREE without a mark; a bond stands (R78, R135,
R162); a claiming node whose ENUM was queued offers it again, or, chained, waits again (R176, R178). A due event waits in the
state for its command, which samples its bits first and otherwise only samples, by log entry 6; the bond class and the
partner report absent after a handshake are log entry 13. -/
def Obligations.DominantRunEvents : Prop :=
  ∀ (bits : List Bool) (s : State), inRun s = true →
    let u := sampled bits s
    let cleared : State := { u with
      link := { u.link with
        receiver := { u.link.receiver with
          state := .hunt, leading := false, assembly := [], stuffRun := 0, stuffBit := false, runStuffed := false }
        resetDue := false, transmitter := .idle, attempt := none, holdoff := none, fifo := [], queue := [] }
      table := { s.table with entries := [] } }
    let atRest : State := if s.ret.bondState = .proposing ∨ s.ret.bondState = .held then unengaged .free cleared else cleared
    (s.link.receiver.state ≠ .off →
        (s.link.receiver.dominantRun = 63 → (sampled [false] s).link.resetDue = true)
          ∧ (s.link.receiver.dominantRun + 1 = bitsPerSecond (prof s).bitRateCode →
              (sampled [false] s).link.stuckDue = true))
      ∧ (u.link.stuckDue = true → exec (.stuckDominantLine bits) s =
        .next (settle { u with link := { u.link with lineFault := true, stuckDue := false } }))
      ∧ (u.link.stuckDue = false → exec (.stuckDominantLine bits) s = .next (settle u))
      ∧ (u.link.resetDue = false → exec (.busReset bits) s = .next (settle u))
      ∧ (u.link.resetDue = true → s.comm.numbering ≠ some .claiming ∨ (∀ f ∈ s.link.queue, f.kind ≠ 0x01#8) →
          exec (.busReset bits) s = .next (settle atRest))
      ∧ (u.link.resetDue = true → s.comm.numbering = some .claiming → (∃ f ∈ s.link.queue, f.kind = 0x01#8) →
          s.link.mode = .listen → ∀ n, s.comm.claim = some n →
          (s.comm.method = some .fixed → exec (.busReset bits) s = .next (settle { atRest with
              link := { atRest.link with
                queue := [⟨0xFF#8, byteOf n, 0x01#8, [byteOf n, 0x01#8]⟩], transmitter := .wait } }))
            ∧ (s.comm.method = some .retained → exec (.busReset bits) s = .next (settle { atRest with
              link := { atRest.link with
                queue := [⟨0xFF#8, byteOf n, 0x01#8, [byteOf n, 0x03#8]⟩], transmitter := .wait } }))
            ∧ (s.comm.method = some .chained → exec (.busReset bits) s = .next (settle { atRest with
              comm := { s.comm with numbering := some .quietWait, quietTimer := some 50, claim := none } })))

/-- The receiver: in HUNT a 0 after an idle line, seven ones and a 0 open a frame (R84); in RECEIVING a seventh dominant bit in
a row, an eighth recessive one, and the 368th content bit abort it without a flag (R81, R82). Each command does what its
bits do to the receiver and nothing else, which is log entry 6; `earlier` are the bits before its last one. -/
def Obligations.ReceiverEvents : Prop :=
  ∀ s : State, inRun s = true → ∀ earlier : List Bool,
    let u := sampled earlier s
    let r := u.link.receiver
    let same (t : State) : Prop := t.ret = s.ret ∧ t.fe = s.fe ∧ t.table = s.table ∧ t.bond = s.bond
      ∧ t.link.fifo = s.link.fifo ∧ t.link.closed = u.link.closed ∧ t.link.overrunFlag = s.link.overrunFlag
      ∧ t.link.lineFault = s.link.lineFault
    let aborts (b : Bool) : Prop := ∃ t, exec (.receiveAbort (earlier ++ [b])) s = .next t
      ∧ t.link.receiver.state = .hunt ∧ t.link.receiver.assembly = [] ∧ same t
    (exec (.openingDelimiter earlier) s = .next (settle u) ∧ exec (.receiveAbort earlier) s = .next (settle u))
      ∧ (r.state = .hunt → r.leading = true → r.recessiveRun = 7 → r.dominantRun = 0 →
        ∃ t, exec (.openingDelimiter (earlier ++ [false])) s = .next t ∧ t.link.receiver.state = .receiving
          ∧ t.link.receiver.assembly = [] ∧ t.link.receiver.stuffRun = 0 ∧ same t)
      ∧ (r.state = .hunt → r.recessiveRun ≠ 7 → r.recessiveRun = 0 ∨ r.dominantRun = 0 →
        ∃ t, exec (.openingDelimiter (earlier ++ [false])) s = .next t ∧ t.link.receiver.state = .hunt
          ∧ (t.link.receiver.leading = true ↔ 11 ≤ r.recessiveRun) ∧ same t)
      ∧ (r.state = .receiving → r.stuffRun = 6 → r.stuffBit = false → aborts false)
      ∧ (r.state = .receiving → r.stuffRun = 7 → aborts true)
      ∧ (r.state = .receiving → r.stuffRun < 6 → r.assembly.length = 367 → ∀ b, aborts b)

/-- A closed frame: one that is no whole number of bytes, too short, too long, or fails its check is discarded without a flag
(R82, R83); the own frame is discarded; one with the own number as its source is a number conflict, which a NUMBERED node and
one CLAIMING a fixed or retained number answer with CONFLICT, MUTED and ALERT (R86, R180); a source of 255, or of 0 on a
kind other than ENUM and PROFILE, is discarded; a good frame enters the FIFO, or is discarded from a full one with the
overrun flag and its mark set (R86 to R88). At a conflict the engine is UNREADY, or, frozen, stands as it was, a bond with it
(R163; the unpinning is log entry 33). The closed frame waits for its command by log entry 6. -/
def Obligations.FrameReceivedIsJudged : Prop :=
  ∀ (bits : List Bool) (s : State), inRun s = true →
    ∀ c rest, (sampled bits s).link.closed = c :: rest →
    let u := sampled bits s
    let v : State := { u with link := { u.link with closed := rest } }
    let content := bitsBytes (c.content.length / 8) c.content
    let good : Prop := 40 ≤ c.content.length ∧ c.content.length % 8 = 0 ∧ c.content.length ≤ 360 ∧ crc content = 0#16
    let src := content.getD 1 0
    let kind := content.getD 2 0
    let fits : Prop := src ≠ 0xFF#8 ∧ (src ≠ 0x00#8 ∨ kind = 0x01#8 ∨ kind = 0x0B#8)
    (¬ good ∨ c.own = true → exec (.frameReceived bits) s = .next (settle v))
      ∧ (good → c.own = false → s.comm.held = some src.toNat →
          s.comm.numbering = some .numbered
            ∨ (s.comm.numbering = some .claiming ∧ (s.comm.method = some .fixed ∨ s.comm.method = some .retained)) →
          ∃ t, exec (.frameReceived bits) s = .next t ∧ t.comm.state = .ready ∧ t.comm.numbering = some .conflict
            ∧ t.comm.held = s.comm.held ∧ t.ret.number = s.ret.number ∧ t.link.mode = .muted ∧ t.link.queue = []
            ∧ t.link.fifo = s.link.fifo ∧ t.pins.alert = true ∧ t.table.entries = [] ∧ t.fp.announceTimer = none
            ∧ (s.ret.freeze = false → t.ret.bondState = .unready ∧ t.ret.engaged = none) ∧ BondMuted s t)
      ∧ (good → c.own = false → s.comm.held = some src.toNat →
          s.comm.numbering = some .conflict ∨ s.comm.numbering = some .noNumber →
          exec (.frameReceived bits) s = .next (settle v))
      ∧ (good → c.own = false → s.comm.held ≠ some src.toNat → ¬ fits → exec (.frameReceived bits) s = .next (settle v))
      ∧ (good → c.own = false → s.comm.held ≠ some src.toNat → fits → s.link.fifo.length < 4 →
          exec (.frameReceived bits) s =
            .next (settle { v with link := { v.link with fifo := s.link.fifo ++ [content] } }))
      ∧ (good → c.own = false → s.comm.held ≠ some src.toNat → fits → 4 ≤ s.link.fifo.length →
          exec (.frameReceived bits) s =
            .next (settle { v with link := { v.link with overrunFlag := true, newOverrun := true } }))

/-! ## The peer table -/

/-- An entry silent for the peer age limit leaves the table unless it is pinned (R131); a decline mark that is due ends, but a
FROZEN mark on a peer that still advertises its freeze flag runs anew (R133). Due means that the counter has reached the value,
log entry 5, and a command before that changes nothing, log entry 3. -/
def Obligations.PeerEntriesExpire : Prop :=
  ∀ (s : State) (n : Nat), inRun s = true → ∀ e, entryOf s.table n = some e →
    let old : Prop := e.lastHeard + (prof s).peerAgeLimit * (prof s).announceInterval ≤ s.seconds
    let anew : Option DeclineMark := some ⟨.frozen, s.seconds + (prof s).backoff * (prof s).proposalInterval⟩
    (old → s.table.pin ≠ some n → exec (.peerAgeRemoval n) s =
        .next (settle { s with table := { s.table with entries := s.table.entries.filter (fun x => x.number != n) } }))
      ∧ (¬ old ∨ s.table.pin = some n → exec (.peerAgeRemoval n) s = .next s)
      ∧ (∀ m, e.mark = some m → m.expiry ≤ s.seconds → ∃ t, exec (.declineMarkExpiry n) s = .next t
          ∧ entryOf t.table n = some { e with mark := if m.reason = .frozen ∧ e.frozen = true then anew else none }
          ∧ (∀ k, k ≠ n → entryOf t.table k = entryOf s.table k) ∧ t.table.pin = s.table.pin
          ∧ t.ret = s.ret ∧ t.bond = s.bond ∧ t.fe = s.fe)
      ∧ ((∀ m, e.mark = some m → s.seconds < m.expiry) → exec (.declineMarkExpiry n) s = .next s)

/-- An ANNOUNCE at the table: the entry takes its fields, the time and its score, and loses its decline mark at a new epoch or
a cold marker (R123); a new peer enters while there is room (R124); into a full table only the pinned peer, or one whose
score puts it ahead of the worst unpinned entry, which then leaves (R125). A C of 0 under a set flag is stored as sent, log
entry 34. -/
def Obligations.AnnounceEntersTable : Prop :=
  ∀ (p : Profile) (own : GradeRecord) (now : Nat) (a : AnnounceFields) (t : PeerTable),
    let u := hearAnnounce p own now a t
    let heard (mark : Option DeclineMark) : PeerEntry :=
      { number := a.source, chemistry := a.chemistry, series := a.series, gradeClass := a.gradeClass
        capacity := a.capacity, r25c := a.r25c, sd := a.sd, bondState := a.bondState, voltage := a.voltage
        epoch := a.epoch, frozen := a.frozen, score := scoreOf p own a.capacity a.r25c a.sd, lastHeard := now
        mark := mark }
    let enters (mark : Option DeclineMark) : Prop := entryOf u a.source = some (heard mark)
    let othersStay (gone : Option Nat) : Prop :=
      ∀ n, n ≠ a.source → entryOf u n = if gone = some n then none else entryOf t n
    (∀ e, entryOf t a.source = some e →
        enters (if e.epoch ≠ a.epoch ∨ a.coldMarker = true then none else e.mark) ∧ othersStay none)
      ∧ (entryOf t a.source = none → t.entries.length < 32 → enters none ∧ othersStay none)
      ∧ (entryOf t a.source = none → 32 ≤ t.entries.length → ∀ pre w post, t.entries = pre ++ w :: post →
          t.pin ≠ some w.number → (∀ e ∈ post, t.pin = some e.number) →
          ((t.pin = some a.source ∨ ((heard none).score.isSome = true ∧ standsAhead (heard none) w = true)) →
              enters none ∧ othersStay (some w.number))
            ∧ (¬ (t.pin = some a.source ∨ ((heard none).score.isSome = true ∧ standsAhead (heard none) w = true)) →
              u = t))
      ∧ u.pin = t.pin

/-- The match score (R126): absent unless both capacities and both resistances are present; else the weighted sum of the
differences, each of capacity and resistance within 0 to 1000, the self-discharge term 0 unless both rates are present,
saturated at 65,535, and the same for the two nodes of a pair. An entry is eligible when the four tests of R129 hold. The
candidate order holds the eligible entries that advertise FREE and carry no mark, in the order of the table (R130). -/
def Obligations.ScoresAndCandidates : Prop :=
  (∀ (p : Profile) (own : GradeRecord) (c r d : Option Nat),
    let difference (a b : Nat) : Nat := (max a b - min a b) * 1000 / max a b
    (scoreOf p own c r d = none ↔ own.capacity = none ∨ own.r25c = none ∨ c = none ∨ r = none)
      ∧ (∀ c1 r1 c2 r2, own.capacity = some c1 → own.r25c = some r1 → c = some c2 → r = some r2 →
        (∀ d1 d2, own.sd = some d1 → d = some d2 → scoreOf p own c r d = some (min 65535
            (p.wC * difference c1 c2 + p.wR * difference r1 r2 + p.wD * (max d1 d2 - min d1 d2))))
          ∧ (own.sd = none ∨ d = none →
            scoreOf p own c r d = some (min 65535 (p.wC * difference c1 c2 + p.wR * difference r1 r2)))
          ∧ difference c1 c2 ≤ 1000 ∧ difference r1 r2 ≤ 1000)
      ∧ scoreOf p own c r d = scoreOf p { own with capacity := c, r25c := r, sd := d } own.capacity own.r25c own.sd)
    ∧ (∀ (p : Profile) (own : GradeRecord) (t : PeerTable) (e : PeerEntry),
      (eligible p own e = true ↔ e.chemistry = p.chemistry ∧ e.series = p.series ∧ e.gradeClass.isSome = true
          ∧ e.gradeClass = own.gradeClass ∧ e.gradeClass ≠ some .x ∧ ∃ x, e.score = some x ∧ x ≤ p.matchLimit)
        ∧ (recordComplete own = false → eligible p own (scored p own e) = false)
        ∧ (own.gradeClass = some .x → eligible p own e = false)
        ∧ (e ∈ candidates p own t ↔ e ∈ t.entries ∧ eligible p own e = true ∧ e.bondState = .free ∧ e.mark = none)
        ∧ (candidates p own t).Sublist t.entries)

/-! ## The frames -/

/-- A frame that lacks the form of its kind, an unknown kind, and a GRADE are taken from the FIFO and leave nothing else behind
(R102, R103, R116); so is every frame in FAILED, and before the profile is in force every kind but ENUM, ANNOUNCE and PROFILE
(R104). An ENUM or PROPOSE command whose frame is not at the front does nothing: the model's choice, log entry 3. -/
def Obligations.FramesSetAside : Prop :=
  ∀ s : State, inRun s = true → ∀ f, frontFrame s = some f →
    let aside := settle (popFrame s)
    (wellFormed f = false → exec (frameRow f) s = .next aside)
      ∧ (f.kind = 0x00#8 ∨ 0x0C#8 ≤ f.kind → exec .unknownKind s = .next aside)
      ∧ (f.kind = 0x09#8 → exec .grade s = .next aside)
      ∧ (s.comm.state = .failed → s.ret.inForce = false → exec (frameRow f) s = .next aside)
      ∧ (s.ret.inForce = false → f.kind ≠ 0x01#8 → f.kind ≠ 0x02#8 → f.kind ≠ 0x0B#8 →
          exec (frameRow f) s = .next aside)
      ∧ (f.kind ≠ 0x01#8 → exec .enum s = .next s) ∧ (f.kind ≠ 0x03#8 → exec .propose s = .next s)

/-- An ENUM raises the highest number heard (R105, R175); it starts the quiet timer again in QUIET WAIT (R177), and sends a
chained node whose own ENUM still waits in the queue back to QUIET WAIT (R178). -/
def Obligations.EnumIsHeard : Prop :=
  ∀ s : State, ∀ f, takes s f → f.kind = 0x01#8 → s.comm.state ≠ .failed →
    let v := popFrame s
    let highest := max s.comm.highest (u8 f.payload 0)
    let queued : Prop := s.comm.numbering = some .claiming ∧ s.comm.method = some .chained
      ∧ queuedNotSending s.link isEnum = true
    (s.comm.numbering = some .quietWait → exec .enum s = .next (settle { v with
        comm := { s.comm with highest := highest, quietTimer := some 50 } }))
      ∧ (queued → exec .enum s = .next (settle { v with
        link := withdrawFrame v.link isEnum
        comm := { s.comm with
          highest := highest, numbering := some .quietWait, quietTimer := some 50, claim := none } }))
      ∧ (s.comm.numbering ≠ some .quietWait → ¬ queued →
        exec .enum s = .next (settle { v with comm := { s.comm with highest := highest } }))

/-- An ANNOUNCE that is not the partner's: its source counts as a number heard (R175), a chained claim at or below it that still
waits in the queue is withdrawn (R178), and once the profile is in force and the link UP the peer table takes it (R104). The
order of the two is log entry 14. -/
def Obligations.AnnounceIsHeard : Prop :=
  ∀ s : State, ∀ f, takes s f → f.kind = 0x02#8 → s.comm.state ≠ .failed →
    bondStands s.ret.bondState = false ∨ s.ret.engaged ≠ some f.src.toNat →
    let v := popFrame s
    let comm := { s.comm with highest := max s.comm.highest f.src.toNat }
    let waits : Prop := s.comm.numbering = some .claiming ∧ s.comm.method = some .chained
      ∧ queuedNotSending s.link isEnum = true ∧ s.comm.claim.getD 0 ≤ f.src.toNat
    (¬ waits → s.ret.inForce = true → s.link.mode = .up → exec .announce s = .next (settle { v with
        comm := comm
        table := hearAnnounce (prof s) s.grade s.seconds (readAnnounce f) s.table }))
      ∧ (¬ waits → s.ret.inForce = false ∨ s.link.mode ≠ .up → exec .announce s = .next (settle { v with comm := comm }))
      ∧ (waits → s.link.mode ≠ .up → exec .announce s = .next (settle { v with
        link := withdrawFrame v.link isEnum
        comm := { comm with numbering := some .quietWait, quietTimer := some 50, claim := none } }))

/-- An ANNOUNCE from the partner: it is the partner report (R152) and keeps the bond BONDED with a fresh partner timer (R153);
unfrozen, another class than the bond class releases with CLASS CHANGE, and a second inconsistent one in a row releases with
INCONSISTENT; else the bond stands, with the count 0 after a consistent one (R154). Its source counts as a number heard (R175),
a chained claim at or below it that waits in the queue is withdrawn (R178), and in UP the peer table takes it before the bond
engine does (R104, R123 to R125; the order is log entry 14). -/
def Obligations.PartnerAnnounceIsExamined : Prop :=
  ∀ s : State, ∀ f, takes s f → f.kind = 0x02#8 → s.comm.state ≠ .failed → s.ret.inForce = true →
    bondStands s.ret.bondState = true → s.ret.engaged = some f.src.toNat →
    let a := readAnnounce f
    let heard : PeerTable :=
      if s.link.mode = .up then hearAnnounce (prof s) s.grade s.seconds a s.table else s.table
    let noted : Commissioning := { s.comm with highest := max s.comm.highest f.src.toNat }
    let withdrawn : Bool := decide (s.comm.numbering = some .claiming ∧ s.comm.method = some .chained
      ∧ queuedNotSending s.link isEnum = true ∧ s.comm.claim.getD 0 ≤ f.src.toNat)
    let v : State := if withdrawn = true
      then { popFrame s with
        link := withdrawFrame (popFrame s).link isEnum
        comm := { noted with numbering := some .quietWait, quietTimer := some 50, claim := none } }
      else { popFrame s with comm := noted }
    let names : Prop := (a.bondState = .held ∨ a.bondState = .bonded ∨ a.bondState = .bondedSilent)
      ∧ a.partner.isSome = true ∧ a.partner = s.comm.held
    let changed : Prop := a.gradeClass ≠ s.bond.bondClass ∧ s.ret.freeze = false
    let released (reason : Byte) (next : BondState) (w : State) : Prop :=
      w.link = offerFrame v.link ⟨f.src, byteOf (s.comm.held.getD 0), 0x07#8, [reason]⟩
        ∧ w.ret = { s.ret with bondState := next, engaged := none } ∧ w.table.pin = none
        ∧ w.table = unpin (prof s) s.seconds heard ∧ w.comm = v.comm
        ∧ w.bond.partnerTimer = none ∧ w.bond.pairEn = false
    let stands (count : Nat) (w : State) : Prop :=
      w.link = v.link ∧ w.ret = { s.ret with bondState := .bonded } ∧ w.bond.inconsistency = count
        ∧ w.table = heard ∧ w.comm = v.comm
        ∧ w.bond.partnerTimer = some ((prof s).partnerTimeout * (prof s).announceInterval)
        ∧ w.bond.report = some ⟨a.voltage, s.seconds⟩ ∧ w.bond.bondClass = s.bond.bondClass
        ∧ (w.bond.pairEn = true ↔ s.bond.pairEn = true ∨
            ((s.fe.lastVoltage.isSome = true ∧ a.voltage.isSome = true)
              ∧ absDiff ((s.fe.lastVoltage.map (fun x => x.mv)).getD 0) (a.voltage.getD 0) ≤ (prof s).joinLimit))
    (changed → s.grade.gradeClass = some .x →
        ∃ w, exec .announce s = .next (settle w) ∧ released 0x03#8 .rejected w)
      ∧ (changed → s.grade.gradeClass ≠ some .x →
        ∃ w, exec .announce s = .next (settle w) ∧ released 0x03#8 .free w)
      ∧ (¬ changed → names → ∃ w, exec .announce s = .next (settle w) ∧ stands 0 w)
      ∧ (¬ changed → ¬ names → s.bond.inconsistency = 0 ∨ s.ret.freeze = true →
        ∃ w, exec .announce s = .next (settle w) ∧ stands (min 2 (s.bond.inconsistency + 1)) w)
      ∧ (¬ changed → ¬ names → 1 ≤ s.bond.inconsistency → s.ret.freeze = false →
        ∃ w, exec .announce s = .next (settle w) ∧ released 0x05#8 .free w)

/-- A PROPOSE: the first row of R145 that applies gives the DECLINE; crossing proposals are settled by the lower number (R146);
in FREE the acceptance rule of R144 gives the DECLINE, or an ACCEPT and HELD. At a crossing the ACCEPT is offered before the
PROPOSE is withdrawn: the model's choice, log entry 14; the one withdrawn, if the queue took it, is the newest to the peer, log
entry 16. -/
def Obligations.ProposeIsAnswered : Prop :=
  ∀ s : State, ∀ f, takes s f → f.kind = 0x03#8 → s.ret.inForce = true →
    let x := f.src.toNat
    let v := popFrame s
    let busy := s.ret.bondState = .held ∨ (s.ret.bondState = .proposing ∧ s.ret.engaged ≠ some x)
    let crossing := s.ret.bondState = .proposing ∧ s.ret.engaged = some x ∧ s.ret.freeze = false
    let declines (r : Byte) : Prop := exec .propose s = .next (settle (offering f.src 0x05#8 [r] v))
    let accepts (u : State) : State :=
      { u with
        dom := { s.dom with ret := { s.ret with bondState := .held, engaged := some x } }
        table := { s.table with pin := some x }
        bond := { s.bond with replyTimer := none, holdTimer := some (prof s).holdTime, proposeTaken := false } }
    let offered := offering f.src 0x04#8 [byteOf s.grade.epoch] v
    let free := s.ret.bondState = .free ∧ s.ret.freeze = false
    (bondStands s.ret.bondState = true → s.ret.engaged ≠ some x → declines 0x01#8)
      ∧ (bondStands s.ret.bondState = true → s.ret.engaged = some x →
        exec .propose s = .next (settle (offering f.src 0x05#8 [0x01#8] (partnerFresh v))))
      ∧ (bondStands s.ret.bondState = false → s.ret.freeze = true → declines 0x05#8)
      ∧ (s.ret.bondState = .unready → s.ret.freeze = false → declines 0x04#8)
      ∧ (s.ret.bondState = .rejected → s.ret.freeze = false → declines 0x06#8)
      ∧ (busy → s.ret.freeze = false → declines 0x02#8)
      ∧ (crossing → ∀ n, s.comm.held = some n →
        (n < x → exec .propose s = .next (settle (accepts (withoutPropose x offered))))
          ∧ (x ≤ n → exec .propose s = .next (settle v)))
      ∧ (free → entryOf s.table x = none → declines 0x07#8)
      ∧ (free → ∀ e, entryOf s.table x = some e →
        (e.epoch ≠ u8 f.payload 2 → declines 0x08#8)
          ∧ (e.epoch = u8 f.payload 2 → eligible (prof s) s.grade e = false → declines 0x06#8)
          ∧ (e.epoch = u8 f.payload 2 → eligible (prof s) s.grade e = true →
            (candidates (prof s) s.grade s.table = [] → exec .propose s = .next (settle (accepts offered)))
              ∧ (∀ h rest, candidates (prof s) s.grade s.table = h :: rest →
                (h.score.getD 0 + (prof s).acceptanceMargin < e.score.getD 0 → declines 0x03#8)
                  ∧ (e.score.getD 0 ≤ h.score.getD 0 + (prof s).acceptanceMargin →
                    exec .propose s = .next (settle (accepts offered))))))

/-- An ACCEPT from the target forms the bond with a CONFIRM (R147), a CONFIRM from the held proposer forms it (R150), with what
the entry to BONDED sets (R152) and the PAIR-EN test (R157); from the partner they only restart the partner timer (R153);
from any other node they are answered with RELEASE LATE. -/
def Obligations.BondIsFormed : Prop :=
  ∀ s : State, ∀ f, takes s f → s.ret.inForce = true →
    let x := f.src.toNat
    let v := popFrame s
    let partner := bondStands s.ret.bondState = true ∧ s.ret.engaged = some x
    let late := settle (offering f.src 0x07#8 [0x01#8] v)
    let bonded (w : State) : Prop :=
      w.ret = { s.ret with bondState := .bonded, engaged := some x } ∧ w.table = s.table
        ∧ w.bond.replyTimer = none ∧ w.bond.holdTimer = none ∧ w.bond.inconsistency = 0 ∧ w.bond.proposeTaken = false
        ∧ w.bond.partnerTimer = some ((prof s).partnerTimeout * (prof s).announceInterval)
        ∧ w.bond.bondClass = s.grade.gradeClass ∧ w.bond.proposalTimer = s.bond.proposalTimer
        ∧ (entryOf s.table x = none → w.bond.report = none ∧ w.bond.pairEn = s.bond.pairEn)
        ∧ (∀ e, entryOf s.table x = some e → w.bond.report = some ⟨e.voltage, e.lastHeard⟩
            ∧ (w.bond.pairEn = true ↔ s.bond.pairEn = true ∨
              ((s.fe.lastVoltage.isSome = true ∧ e.voltage.isSome = true)
                ∧ absDiff ((s.fe.lastVoltage.map (fun y => y.mv)).getD 0) (e.voltage.getD 0) ≤ (prof s).joinLimit
                ∧ s.seconds ≤ e.lastHeard + 2 * (prof s).announceInterval)))
    (f.kind = 0x04#8 → s.ret.bondState = .proposing → s.ret.engaged = some x →
        ∃ w, exec .accept s = .next (settle w) ∧ bonded w
          ∧ w.link = offerFrame v.link ⟨f.src, byteOf (s.comm.held.getD 0), 0x06#8, [byteOf s.grade.epoch]⟩)
      ∧ (f.kind = 0x06#8 → s.ret.bondState = .held → s.ret.engaged = some x →
        ∃ w, exec .confirm s = .next (settle w) ∧ bonded w ∧ w.link = v.link)
      ∧ (f.kind = 0x04#8 → partner → exec .accept s = .next (settle (partnerFresh v)))
      ∧ (f.kind = 0x06#8 → partner → exec .confirm s = .next (settle (partnerFresh v)))
      ∧ (f.kind = 0x04#8 → ¬ partner → ¬ (s.ret.bondState = .proposing ∧ s.ret.engaged = some x) →
        exec .accept s = .next late)
      ∧ (f.kind = 0x06#8 → ¬ partner → ¬ (s.ret.bondState = .held ∧ s.ret.engaged = some x) →
        exec .confirm s = .next late)

/-- A DECLINE, or a RELEASE as a DECLINE BUSY, from the target marks it, unpins it and leaves FREE (R148); a RELEASE from the
held proposer ends the hold (R151), and from the partner the bond, unless the freeze flag holds it against a reason other than
LATE (R155); any other has no effect but to restart the partner timer for the partner (R153). Every exit from an engagement
makes the bond class and the partner report absent, log entry 13, and the PROPOSE withdrawn, if the queue took it, is the
newest to the target, log entry 16. -/
def Obligations.DeclineAndRelease : Prop :=
  ∀ s : State, ∀ f, takes s f → s.ret.inForce = true →
    let x := f.src.toNat
    let v := popFrame s
    let target := s.ret.bondState = .proposing ∧ s.ret.engaged = some x
    let proposer := s.ret.bondState = .held ∧ s.ret.engaged = some x
    let partner := bondStands s.ret.bondState = true ∧ s.ret.engaged = some x
    (f.kind = 0x05#8 → target → ∀ r, declineOfCode (u8 f.payload 0) = some r →
        exec .decline s = .next (settle (unengaged .free (marked x r (withoutPropose x v)))))
      ∧ (f.kind = 0x05#8 → ¬ target → ¬ partner → exec .decline s = .next (settle v))
      ∧ (f.kind = 0x05#8 → partner → exec .decline s = .next (settle (partnerFresh v)))
      ∧ (f.kind = 0x07#8 → target →
        exec .release s = .next (settle (unengaged .free (marked x .busy (withoutPropose x v)))))
      ∧ (f.kind = 0x07#8 → proposer → exec .release s = .next (settle (unengaged .free v)))
      ∧ (f.kind = 0x07#8 → partner → s.ret.freeze = false ∨ f.payload = [0x01#8] →
        exec .release s = .next (settle (unengaged .free v)))
      ∧ (f.kind = 0x07#8 → partner → s.ret.freeze = true → f.payload ≠ [0x01#8] →
        exec .release s = .next (settle (partnerFresh v)))
      ∧ (f.kind = 0x07#8 → ¬ target → ¬ proposer → ¬ partner → exec .release s = .next (settle v))

/-- A QUERY is answered at once with a GRADE to its sender, and nothing else changes (R114). Its fields are the record as it
stands, each optional one with its absent form, the flags, the points held and the seconds since the last capture (R115,
R195). -/
def Obligations.QueryIsAnswered : Prop :=
  ∀ s : State, ∀ f, takes s f → f.kind = 0x08#8 → s.ret.inForce = true →
    let p := gradePayload s
    let flag (i : Nat) : Bool := (p.getD 3 0).getLsbD i
    exec .query s = .next (settle (offering f.src 0x09#8 p (popFrame s)))
      ∧ p.length = 25
      ∧ u8 p 0 = (prof s).chemistry % 256 ∧ u8 p 1 = (prof s).series % 256
      ∧ u8 p 2 = (match s.grade.gradeClass with | none => 0 | some k => classRank k + 1)
      ∧ p.getD 3 0 = flagsByte s
      ∧ (flag 7 = s.grade.capacity.isSome ∧ flag 6 = s.grade.r25c.isSome ∧ flag 5 = s.grade.sd.isSome
          ∧ flag 4 = s.fe.integrityFlag ∧ flag 3 = s.link.overrunFlag ∧ flag 2 = s.ret.freeze
          ∧ flag 1 = s.ret.coldMarker ∧ flag 0 = s.link.lineFault)
      ∧ (∀ h, s.grade.soh = some h → h ≤ 65535 → u16 p 4 = h) ∧ (s.grade.soh = none → u16 p 4 = 0)
      ∧ (∀ c, s.grade.capacity = some c → c ≤ 16777215 → u24 p 6 = c) ∧ (s.grade.capacity = none → u24 p 6 = 0)
      ∧ (s.grade.estimateCount ≤ 255 → u8 p 9 = s.grade.estimateCount)
      ∧ (∀ r, s.grade.r25c = some r → r ≤ 16777215 → u24 p 10 = r) ∧ (s.grade.r25c = none → u24 p 10 = 0)
      ∧ (∀ r, s.grade.resistance = some r → r ≤ 16777215 → u24 p 13 = r) ∧ (s.grade.resistance = none → u24 p 13 = 0)
      ∧ (∀ k, s.grade.pulseTemperature = some k → -128 ≤ k → k ≤ 127 → s8 p 16 = k)
      ∧ (s.grade.pulseTemperature = none → s8 p 16 = 0)
      ∧ (∀ d, s.grade.sd = some d → d ≤ 65535 → u16 p 17 = d) ∧ (s.grade.sd = none → u16 p 17 = 0)
      ∧ (∀ d, s.grade.lastDeltaSoc = some d → d ≤ 65535 → u16 p 19 = d) ∧ (s.grade.lastDeltaSoc = none → u16 p 19 = 0)
      ∧ (s.ret.points.length ≤ 8 → u8 p 21 = s.ret.points.length)
      ∧ (s.ret.points = [] → u24 p 22 = 16777215)
      ∧ (∀ k, s.ret.points.getLast? = some k → u24 p 22 = min 16777214 (s.seconds - k.time))

/-- What an ANNOUNCE carries is what a receiving node reads: a node number in 1 to 239, a profile and a record in their ranges,
and a partner exactly in the engaged states go through the payload unchanged, an absent item absent, a voltage of 65,535 mV
with them; what the receiving node does not use, SOH, the temperature and the three fault flags, stands in its bytes, each
optional one with its absent form (R106, R195). -/
def Obligations.AnnounceReadsBack : Prop :=
  ∀ s : State, (prof s).chemistry ≤ 255 → 1 ≤ (prof s).series → (prof s).series ≤ 255 → s.grade.epoch ≤ 255 →
    (∀ c, s.grade.capacity = some c → c ≤ 16777215) → (∀ r, s.grade.r25c = some r → r ≤ 16777215) →
    (∀ d, s.grade.sd = some d → d ≤ 65535) → (∀ x, s.fe.lastVoltage = some x → x.mv ≤ 65535) →
    s.ret.engaged.isSome = engagedState s.ret.bondState → (∀ n, s.ret.engaged = some n → 1 ≤ n ∧ n ≤ 239) →
    ∀ n, s.comm.held = some n → 1 ≤ n → n ≤ 239 →
    let f : Frame := ⟨0xFF#8, byteOf n, 0x02#8, announcePayload s⟩
    wellFormed f = true
      ∧ readAnnounce f =
        { source := n, chemistry := (prof s).chemistry, series := (prof s).series, gradeClass := s.grade.gradeClass
          capacity := s.grade.capacity, r25c := s.grade.r25c, sd := s.grade.sd, frozen := s.ret.freeze
          coldMarker := s.ret.coldMarker, bondState := s.ret.bondState, partner := s.ret.engaged
          voltage := s.fe.lastVoltage.bind (fun x => if x.mv = 65535 then none else some x.mv)
          epoch := s.grade.epoch }
      ∧ (∀ h, s.grade.soh = some h → h ≤ 65535 → u16 f.payload 6 = h) ∧ (s.grade.soh = none → u16 f.payload 6 = 0)
      ∧ (∀ k, s.fe.lastTemperature = some k → -40 ≤ k → k ≤ 125 → s8 f.payload 18 = k)
      ∧ (s.fe.lastTemperature = none → f.payload.getD 18 0 = 0x80#8)
      ∧ (s.grade.capacity = none → u24 f.payload 8 = 0) ∧ (s.grade.r25c = none → u24 f.payload 11 = 0)
      ∧ (s.grade.sd = none → u16 f.payload 14 = 0) ∧ (s.fe.lastVoltage = none → u16 f.payload 16 = 65535)
      ∧ (∀ x, s.fe.lastVoltage = some x → u16 f.payload 16 = x.mv)
      ∧ (let flag (i : Nat) : Bool := (f.payload.getD 3 0).getLsbD i
         flag 4 = s.fe.integrityFlag ∧ flag 3 = s.link.overrunFlag ∧ flag 0 = s.link.lineFault)

/-! ## The campaign -/

/-- A CAMPAIGN whose number is the one stored is ignored, any other is stored (R117). START wakes a dormant node and tests its
readiness (R21, R140); FREEZE sets the flag and cuts a handshake short (R159); RELEASE ALL, unfrozen, releases a BONDED
partner or cuts a handshake short (R160); an unknown action only stores the number (R119). The handshake cut short and the
bond released leave the bond class and the partner report absent, log entry 13; a FREEZE unpins, log entry 31; the PROPOSE
withdrawn, if the queue took it, is the newest to the target, log entry 16. -/
def Obligations.CampaignActions : Prop :=
  ∀ s : State, ∀ f, takes s f → f.kind = 0x0A#8 → s.ret.inForce = true →
    let v := popFrame s
    let stored : State := { v with dom := { s.dom with ret := { s.ret with campaign := some (u8 f.payload 1) } } }
    let frozen : State :=
      { v with dom := { s.dom with ret := { s.ret with campaign := some (u8 f.payload 1), freeze := true } } }
    let awake : State :=
      { v with dom := { s.dom with ret := { s.ret with campaign := some (u8 f.payload 1), activity := .active } } }
    let becomes (b : BondState) (u : State) : State :=
      { u with dom := { u.dom with ret := { u.ret with bondState := b, engaged := none } } }
    let action := u8 f.payload 0
    let shaking := s.ret.bondState = .proposing ∨ s.ret.bondState = .held
    let cut (u : State) : State :=
      unengaged .free (if s.ret.bondState = .proposing then withoutPropose (s.ret.engaged.getD 0) u else u)
    let ready := s.ret.bondState = .unready ∧ recordComplete s.grade = true ∧ s.link.mode = .up
      ∧ s.grade.gradeClass.isSome = true
    (s.ret.campaign = some (u8 f.payload 1) → exec (frameRow f) s = .next (settle v))
      ∧ (s.ret.campaign ≠ some (u8 f.payload 1) →
        (action = 0 ∨ 4 < action → exec .campaignUnknownAction s = .next (settle stored))
          ∧ (action = 1 → s.ret.activity = .active → exec .campaignStart s = .next (settle stored))
          ∧ (action = 1 → s.ret.activity = .dormant → ¬ ready → exec .campaignStart s = .next (settle awake))
          ∧ (action = 1 → s.ret.activity = .dormant → ready → s.grade.gradeClass = some .x →
            exec .campaignStart s = .next (settle (becomes .rejected awake)))
          ∧ (action = 1 → s.ret.activity = .dormant → ready → s.grade.gradeClass ≠ some .x →
            exec .campaignStart s = .next (settle (becomes .free awake)))
          ∧ (action = 2 → ¬ shaking → exec .campaignFreeze s = .next (settle frozen))
          ∧ (action = 2 → shaking → s.ret.engaged.isSome = true →
            exec .campaignFreeze s = .next (settle (cut frozen)))
          ∧ (action = 4 → s.ret.freeze = true → exec .campaignReleaseAll s = .next (settle stored))
          ∧ (action = 4 → s.ret.freeze = false → shaking → s.ret.engaged.isSome = true →
            exec .campaignReleaseAll s = .next (settle (cut stored)))
          ∧ (action = 4 → s.ret.freeze = false → s.ret.bondState = .bonded → ∀ n, s.ret.engaged = some n →
            exec .campaignReleaseAll s =
              .next (settle (unengaged .free (offering (byteOf n) 0x07#8 [0x04#8] stored))))
          ∧ (action = 4 → s.ret.freeze = false → s.ret.bondState ≠ .bonded → ¬ shaking →
            exec .campaignReleaseAll s = .next (settle stored)))

/-- A REGRADE is vetoed by the freeze flag (R72); else the record is emptied with its epoch raised, the list emptied, the
pulse engine in IDLE with no last valid pulse time, every entry kept with no score and no mark, and the engine UNREADY with
nothing left of an engagement, the partner of a standing bond told RELEASE REGRADE and a queued PROPOSE withdrawn (R36, R50,
R73, R127, R137, R141, R143, R161). An entry that was pinned and whose age has passed leaves at the unpinning (R131). The
charge counter, the divider residue and the activity are kept. The window count and the spoiled mark of an engine already in
IDLE stand (R50). The order of the blocks is log entry 14, and the inconsistency count left as it is log entry 13. -/
def Obligations.RegradeEmptiesRecord : Prop :=
  ∀ s : State, ∀ f, takes s f → f.kind = 0x0A#8 → s.ret.inForce = true → u8 f.payload 0 = 3 →
    s.ret.campaign ≠ some (u8 f.payload 1) →
    let v := popFrame s
    (s.ret.freeze = true → exec .campaignRegrade s = .next (settle { v with
        dom := { s.dom with ret := { s.ret with campaign := some (u8 f.payload 1) } } }))
      ∧ (s.ret.freeze = false → ∃ w, exec .campaignRegrade s = .next (settle w)
        ∧ w.grade = ⟨none, 0, none, none, none, none, none, none, none, none, (s.grade.epoch + 1) % 256⟩
        ∧ w.ret = { s.ret with
            grade := w.grade, campaign := some (u8 f.payload 1), points := [], offered := none, lastPulse := none
            bondState := .unready, engaged := if s.ret.bondState = .unready then s.ret.engaged else none }
        ∧ w.rest = { s.rest with state := .moving, restTimer := none, longTimer := none, reference := none }
        ∧ w.pulse = (if s.pulse.state = .idle then s.pulse else ⟨.idle, 0, false, none, none⟩)
        ∧ w.fe = s.fe ∧ w.comm = s.comm
        ∧ w.table.entries.all (fun e => e.score.isNone && e.mark.isNone) = true
        ∧ w.table.entries.Perm ((s.table.entries.filter (fun e => !(decide (s.ret.bondState ≠ .unready)
            && decide (s.table.pin = some e.number)
            && decide (e.lastHeard + (prof s).peerAgeLimit * (prof s).announceInterval ≤ s.seconds)))).map
              (fun e => { e with score := none, mark := none }))
        ∧ w.table.pin = (if s.ret.bondState = .unready then s.table.pin else none)
        ∧ w.bond = (if s.ret.bondState = .unready then s.bond
            else ⟨s.bond.proposalTimer, none, none, none, s.bond.inconsistency, none, none, false, false⟩)
        ∧ w.bond.proposalTimer = s.bond.proposalTimer ∧ w.bond.inconsistency = s.bond.inconsistency
        ∧ (s.ret.bondState ≠ .unready → w.bond.replyTimer = none ∧ w.bond.holdTimer = none
            ∧ w.bond.partnerTimer = none ∧ w.bond.pairEn = false ∧ w.table.pin = none)
        ∧ (s.ret.bondState = .bonded ∨ s.ret.bondState = .bondedSilent → ∀ n, s.ret.engaged = some n →
            w.link = offerFrame v.link ⟨byteOf n, byteOf (s.comm.held.getD 0), 0x07#8, [0x02#8]⟩)
        ∧ (s.ret.bondState = .proposing → ∀ n, s.ret.engaged = some n → w.link = (withoutPropose n v).link)
        ∧ (s.ret.bondState = .unready ∨ s.ret.bondState = .free ∨ s.ret.bondState = .rejected ∨ s.ret.bondState = .held →
            w.link = v.link))

/-! ## The profile -/

/-- A PROFILE request starts a broadcast at a NUMBERED sharer, whatever one is under way (R173), and is otherwise discarded; a
node in AWAITING PROFILE repeats its own request every 2 s and empties a buffer that has not grown in that time (R171, R172).
In any other state the request timer's command changes nothing by log entry 3. -/
def Obligations.ProfileRequests : Prop :=
  ∀ s : State, inRun s = true →
    let shares : Prop := s.comm.numbering = some .numbered ∧ s.ret.source = some .externalMemory ∧ (prof s).sharing = true
    (∀ f, takes s f → isRequest f = true → s.comm.state ≠ .failed →
        (f.payload = [0x00#8, 0x00#8] → shares → exec .profileRequest s = .next (settle { popFrame s with
            comm := { s.comm with share := some 0 } }))
          ∧ (¬ (f.payload = [0x00#8, 0x00#8] ∧ shares) → exec .profileRequest s = .next (settle (popFrame s))))
      ∧ (s.comm.state = .awaitingProfile → s.comm.requestTimer.isSome = true →
        let offered := offerFrame s.link ⟨0xFF#8, 0x00#8, 0x0B#8, [0x00#8, 0x00#8]⟩
        (s.comm.buffer = none → exec .requestTimerExpiry s = .next (settle { s with
            link := offered, comm := { s.comm with requestTimer := some 2000 } }))
          ∧ (∀ b, s.comm.buffer = some b → exec .requestTimerExpiry s = .next (settle { s with
            link := offered
            comm := { s.comm with
              requestTimer := some 2000
              buffer := if b.stored = true then some { b with stored := false } else none } })))
      ∧ (s.comm.state ≠ .awaitingProfile → exec .requestTimerExpiry s = .next s)

/-- A segment that passes the tests of R172 is stored in the buffer it binds or continues; a foreign source or a repeated
index is discarded, a differing count or length empties the buffer; a complete record that is valid comes into force as the
bus profile, an invalid one empties the buffer (R167, R172, R174). With the profile the front end opens a window under it and
derives the cell voltage anew, the rest detector takes a continuity break and the start activity, the receiver hunts anew and
an attempt in SENDING is given up with its frame kept (R10, R36, R76, R167). With no other check value than the retained one
the contents stand, the bond and its pin among them, a BONDED engine has a fresh partner timer, and a FREE or REJECTED one of
a dormant node is UNREADY (R164, R167); with another every retained item is cold and no pin and no number are left (R174,
R191). The node claims the number it kept as RETAINED with an ENUM, or without one waits for the chain, or for the quiet time
where CHAIN-IN is active (R175 to R177). A holdoff of 0 is over at once, log entry 21; outside AWAITING PROFILE a segment is
discarded. -/
def Obligations.SegmentsAssemble : Prop :=
  ∀ s : State, ∀ f, takes s f → f.kind = 0x0B#8 → isRequest f = false → s.comm.state ≠ .failed →
    let v := popFrame s
    let i := u8 f.payload 0
    let count := u8 f.payload 1
    let len := u8 f.payload 2
    let data := f.payload.drop 3
    let passes : Prop := 3 ≤ f.payload.length ∧ f.src ≠ 0x00#8 ∧ f.src ≠ 0xFF#8 ∧ 1 ≤ count ∧ count ≤ 5
      ∧ 75 ≤ len ∧ len ≤ 131 ∧ count = (len + 31) / 32 ∧ i < count
      ∧ data.length = if i + 1 = count then len - 32 * (count - 1) else 32
    let holds (b : Option AssemblyBuffer) : State := { v with comm := { s.comm with buffer := b } }
    (s.comm.state ≠ .awaitingProfile ∨ ¬ passes → exec .profileSegment s = .next (settle v))
      ∧ (s.comm.state = .awaitingProfile → passes → s.comm.buffer = none →
        exec .profileSegment s = .next (settle (holds (some ⟨f.src.toNat, count, len, [(i, data)], true⟩))))
      ∧ (s.comm.state = .awaitingProfile → passes → ∀ b, s.comm.buffer = some b →
        (bufferComplete b = false → b.source ≠ f.src.toNat → exec .profileSegment s = .next (settle v))
          ∧ (bufferComplete b = false → b.source = f.src.toNat → b.count = count → b.length = len →
            holdsIndex b i = true → exec .profileSegment s = .next (settle v))
          ∧ (b.source = f.src.toNat → b.count ≠ count ∨ b.length ≠ len →
            exec .profileSegment s = .next (settle (holds none)))
          ∧ (b.source = f.src.toNat → b.count = count → b.length = len → holdsIndex b i = false →
            let grown : AssemblyBuffer := { b with segments := b.segments ++ [(i, data)], stored := true }
            let bytes := (List.range count).flatMap (segmentAt grown)
            (bufferComplete grown = false → exec .profileSegment s = .next (settle (holds (some grown))))
              ∧ (bufferComplete grown = true → 67 + 4 * u8 bytes 2 ≠ len ∨ parseRecord bytes = none →
                exec .profileSegment s = .next (settle (holds none)))
              ∧ (bufferComplete grown = true → 67 + 4 * u8 bytes 2 = len →
                ∀ r, parseRecord bytes = some r →
                let p : Profile := { r.profile with nodeNumber := 0, sharing := false }
                let taken (ret : Retained) : Retained := { ret with
                  profile := some p, source := some .bus, inForce := true, profileCheck := some r.check
                  residue := 0, points := [], offered := none, activity := p.startActivity }
                let sleeps : Prop := p.startActivity = .dormant ∧ (s.ret.bondState = .free ∨ s.ret.bondState = .rejected)
                let hunting : Link := { v.link with
                  receiver := ⟨.hunt, 0, 0, false, [], 0, false, false⟩, resetDue := false, stuckDue := false }
                let waiting : TransmitterState := if s.link.queue = [] then .idle else .wait
                let reopened : Link := if s.link.transmitter = .sending then { hunting with
                    attempt := none
                    transmitter := if p.holdoff = 0 then waiting else .holdoff
                    holdoff := if p.holdoff = 0 then none else some p.holdoff } else hunting
                let claims (n : Nat) (w : State) : Prop :=
                  w.comm = { s.comm with
                      state := .numbering, numbering := some .claiming, method := some .retained, claim := some n
                      held := some n, requestTimer := none, buffer := none }
                    ∧ w.link = offerFrame reopened ⟨0xFF#8, byteOf n, 0x01#8, [byteOf n, 0x03#8]⟩
                let chained (w : State) : Prop :=
                  w.comm = { s.comm with
                      state := .numbering, method := some .chained, claim := none, held := none
                      numbering := if s.pins.chainIn = true then some .quietWait else some .chainWait
                      quietTimer := if s.pins.chainIn = true then some 50 else s.comm.quietTimer
                      requestTimer := none, buffer := none }
                    ∧ w.link = reopened
                (∃ w, exec .profileSegment s = .next (settle w)
                  ∧ w.fe = { s.fe with
                      window := some (windowMs p.gateCode), chg := 0, dsg := 0
                      lastVoltage := s.fe.lastVoltage.map (fun x => ⟨x.mv, roundHalfUp x.mv p.series⟩) }
                  ∧ w.rest = { s.rest with state := .moving, restTimer := none, longTimer := none, reference := none }
                  ∧ w.pulse = s.pulse ∧ w.fp = s.fp ∧ w.supply = s.supply
                  ∧ (s.ret.profileCheck = none ∨ s.ret.profileCheck = some r.check →
                      w.dom = { s.dom with ret := { taken s.ret with
                          bondState := if sleeps then .unready else s.ret.bondState
                          engaged := if sleeps then none else s.ret.engaged } }
                        ∧ w.table = s.table
                        ∧ w.bond = (if s.ret.bondState = .bonded
                            then { s.bond with partnerTimer := some (p.partnerTimeout * p.announceInterval) } else s.bond)
                        ∧ (∀ n, s.ret.number = some n → claims n.number w) ∧ (s.ret.number = none → chained w))
                  ∧ (∀ k, s.ret.profileCheck = some k → k ≠ r.check →
                      w.dom = ⟨taken coldRetained, 0, 0, 0xAA55#16, 0x55AA#16, w.dom.check⟩ ∧ w.table = ⟨[], none⟩
                        ∧ w.bond = ⟨none, none, none, none, 0, none, none, false, false⟩ ∧ chained w))
                ∧ ∃ t, exec .profileSegment s = .next t
                  ∧ t.ret.inForce = true ∧ t.ret.source = some .bus ∧ t.ret.profileCheck = some r.check
                  ∧ t.ret.profile = some { r.profile with nodeNumber := 0, sharing := false }
                  ∧ t.ret.residue = 0 ∧ t.ret.points = [] ∧ t.ret.activity = r.profile.startActivity
                  ∧ t.comm.state = .numbering ∧ t.comm.requestTimer = none ∧ t.comm.buffer = none
                  ∧ t.fe.window = some (windowMs r.profile.gateCode) ∧ t.fe.chg = 0 ∧ t.fe.dsg = 0
                  ∧ t.link.receiver = ⟨.hunt, 0, 0, false, [], 0, false, false⟩
                  ∧ (s.ret.profileCheck = none ∨ s.ret.profileCheck = some r.check →
                      t.grade = s.grade ∧ t.ret.charge = s.ret.charge ∧ t.seconds = s.seconds)
                  ∧ (∀ k, s.ret.profileCheck = some k → k ≠ r.check →
                      t.grade.capacity = none ∧ t.grade.epoch = 0 ∧ t.ret.charge = 0 ∧ t.seconds = 0
                        ∧ t.ret.coldMarker = true ∧ t.ret.campaign = none))))

/-! ## The supply and reset -/

/-- Power-up: OFF with the line released starts cold, every retained item at its cold start value, the seconds counter at 0,
and the check words written (R184, R186, R187, R190); the straps choose where the profile comes from (R166): the built-in
default or a valid external record comes into force and numbering begins by the table of R175 (R167), the bus profile is
awaited with a request (R171), an invalid external record is FAILED with ALERT (R170), or with the fallback strap is set aside
for the default (R166). OFF with the line held enters RESET. The memory read as one event is log entry 19, no profile and no
source until one is in force log entry 35, and the readings in thousandths of a °C and in mV log entry 18. -/
def Obligations.PowerUpStartsCold : Prop :=
  ∀ (i : StartInputs) (s : State), s.supply.state = .off →
    (s.pins.reset = true → exec (.supplyAtRunLevel i) s = .next (settle { s with supply := ⟨.reset, .cold⟩ }))
      ∧ (s.pins.reset = false → ∃ w, exec (.supplyAtRunLevel i) s = .next w ∧ w.supply = ⟨.run, .cold⟩
          ∧ w.pins.chainIn = s.pins.chainIn ∧ w.pins.reset = false ∧ StartsCold i w)

/-- A return of the supply from HOLD with the retention domain intact and a profile in force resumes with what was kept; a
bond stands with its partner pinned and a fresh partner timer, and a handshake has become FREE (R137, R164, R184). A held
number makes the node NUMBERED and the link UP, with the readiness test made and a sharer's broadcast begun at segment 0,
which `settle` feeds to the queue (R140, R173, R182); without a number the node is in NUMBERING by the table of R175 (R182).
Where no profile was in force the node loads one by the straps as at a restart (R166, R182), which is log entry 23; a domain
that fails its check, a dip having corrupted it or not, starts cold (R186, R187). The contents are as the node left them where
no dip is brought in, log entry 10; the highest heard with a number held is log entry 36, no profile and no source until one
is in force log entry 35, the memory read as one event log entry 19, and the reading in thousandths of a °C log entry 18. -/
def Obligations.WarmReturnKeeps : Prop :=
  ∀ (i : StartInputs) (s : State), s.supply.state = .hold →
    let start := exec (.supplyAtRunLevel i) s
    let volts := (clamp 0 65535 i.vsense).toNat
    let resumes (t : State) : Prop :=
      StartKeeps s t ∧ BondResumes (prof s) s.ret.activity s t ∧ t.supply = ⟨.run, .warm⟩
        ∧ t.ret.inForce = true ∧ t.ret.profile = s.ret.profile ∧ t.ret.source = s.ret.source
        ∧ t.ret.profileCheck = s.ret.profileCheck ∧ t.ret.activity = s.ret.activity
        ∧ t.ret.residue = s.ret.residue ∧ t.ret.points = s.ret.points ∧ t.ret.offered = s.ret.offered
        ∧ t.ret.lastPulse = s.ret.lastPulse
        ∧ t.fe = ⟨some (windowMs (prof s).gateCode), 0, 0, none, some ⟨volts, roundHalfUp volts (prof s).series⟩,
            some (clamp (-40) 125 (roundHalfUpInt i.tsense 1000)), false, false⟩
    (i.upset = none → retentionPasses s.dom = true → s.ret.inForce = true →
        (∀ n, s.ret.number = some n → ∃ w, start = .next (settle w) ∧ resumes w
          ∧ w.comm = ⟨.ready, some .numbered, some n.method, none, some n.number, 0, none, none, none,
              if s.ret.source = some .externalMemory ∧ (prof s).sharing = true then some 0 else none, []⟩
          ∧ w.link.mode = .up ∧ w.link.queue = [] ∧ w.link.transmitter = .idle ∧ w.link.receiver.state = .hunt
          ∧ w.fp = ⟨none, some (n.number * 37 % ((prof s).announceInterval * 1000))⟩
          ∧ w.bond.proposalTimer = some (n.number * 53 % ((prof s).proposalInterval * 1000))
          ∧ (s.ret.bondState = .unready → recordComplete s.grade = true → s.ret.activity = .active →
              ∀ k, s.grade.gradeClass = some k → w.ret.bondState = if k = .x then .rejected else .free)
          ∧ (s.ret.bondState = .unready → recordComplete s.grade = false ∨ s.ret.activity = .dormant →
              w.ret.bondState = .unready))
        ∧ (s.ret.number = none → ∃ t, start = .next t ∧ resumes t ∧ NumberingBegins (prof s) none t
          ∧ t.comm.memoryCommand = [] ∧ t.comm.share = none ∧ t.link.receiver.state = .hunt
          ∧ t.fp = ⟨none, none⟩ ∧ t.bond.proposalTimer = none
          ∧ (s.ret.bondState = .unready → t.ret.bondState = .unready)))
      ∧ (i.upset = none → retentionPasses s.dom = true → s.ret.inForce = false →
        ∃ t, start = .next t ∧ t.supply = ⟨.run, .warm⟩ ∧ LoadsByStraps i s t
          ∧ (t.ret.inForce = false → t.ret.points = s.ret.points ∧ t.ret.offered = s.ret.offered))
      ∧ (retentionPasses (i.upset.getD s.dom) = false →
        ∃ t, start = .next t ∧ t.supply.state = .run ∧ t.pins.chainIn = s.pins.chainIn ∧ StartsCold i t)

/-- RESET stops every block from RUN and keeps the retention domain (R184, R185). The start with the kind RESTART, at the
line's release at run level or at run level with the line released, breaks continuity and loads the profile by the straps,
with NUMBERING by the table of R175, FAILED with ALERT, or a request for the profile of the bus (R166, R168, R170, R171, R175,
R186); a profile that comes into force with no other check value than the retained one keeps the record, the counters, the
number and a bond with its partner pinned (R137, R164, R182), and one with another makes the start cold (R174, R191). A start
of the kind COLD, of a RESET entered from OFF, and one of the kind RESTART whose check fails, are cold (R184, R186, R187). The
values of the items not retained in RESET are the model's choice, log entry 11; that no profile is held until one comes into
force is log entry 35; contents as the node left them are log entry 10, the memory read as one event log entry 19, the
readings in thousandths of a °C and in mV log entry 18, and the level of the supply as an operand is log entry 29. That the
line's release elsewhere, and run level in RUN or with the line held, start nothing is R184; that the command is then without
effect is log entry 3. -/
def Obligations.ResetRestarts : Prop :=
  ∀ s : State,
    let line (level : Bool) : Pins := { s.pins with reset := level }
    let stopped : State := { s with
      supply := ⟨.reset, .restart⟩
      fe := ⟨none, 0, 0, none, none, none, false, false⟩
      rest := ⟨.moving, none, none, none, []⟩
      pulse := if s.pulse.state = .idle then s.pulse else ⟨.idle, 0, false, none, none⟩
      link := stoppedLink
      fp := ⟨none, none⟩
      table := ⟨[], s.table.pin⟩
      bond := ⟨none, none, none, none, 0, none, none, false, false⟩
      comm := stoppedCommissioning
      pins := line true }
    (s.supply.state = .run → exec .resetAsserted s = .next (settle stopped))
      ∧ (s.supply.state = .hold →
        exec .resetAsserted s = .next (settle { s with supply := ⟨.reset, .restart⟩, pins := line true }))
      ∧ (s.supply.state = .off ∨ s.supply.state = .reset →
        exec .resetAsserted s = .next (settle { s with pins := line true }))
      ∧ (∀ i : StartInputs, s.supply.state ≠ .reset ∨ s.pins.reset = false →
        exec (.resetReleased true i) s = .next (settle { s with pins := line false }))
      ∧ (∀ i : StartInputs, exec (.resetReleased false i) s = .next (settle { s with pins := line false }))
      ∧ (∀ i : StartInputs, s.supply = ⟨.reset, .restart⟩ → retentionPasses s.dom = true → i.upset = none →
        let start : Instr := if s.pins.reset = true then .resetReleased true i else .supplyAtRunLevel i
        ∃ t, exec start s = .next t ∧ t.supply = ⟨.run, .restart⟩ ∧ t.pins.reset = false
          ∧ t.ret.points = [] ∧ t.ret.offered = none ∧ LoadsByStraps i s t)
      ∧ (∀ i : StartInputs, s.supply.state = .reset →
        s.supply.kind = .cold ∨ (s.supply.kind = .restart ∧ retentionPasses (i.upset.getD s.dom) = false) →
        let start : Instr := if s.pins.reset = true then .resetReleased true i else .supplyAtRunLevel i
        ∃ t, exec start s = .next t ∧ t.supply.state = .run ∧ t.pins.reset = false ∧ t.pins.chainIn = s.pins.chainIn
          ∧ StartsCold i t)
      ∧ (∀ i : StartInputs, s.supply.state = .run ∨ (s.supply.state = .reset ∧ s.pins.reset = true) →
        exec (.supplyAtRunLevel i) s = .next s)

/-- A supply below the hold level stops every block and raises a continuity break; nothing else that is retained changes (R36,
R184, R188); below the retention limit HOLD and RESET become OFF with the kind COLD and lose the domain's contents (R184,
R187); in every other state the two events have no effect (log entry 3). The values of the items not retained in HOLD are the
model's choice, log entry 11, and the lost contents are a free value, log entry 8. -/
def Obligations.SupplyFalls : Prop :=
  ∀ s : State,
    (s.supply.state = .run → exec .supplyBelowHoldLevel s = .next (settle { s with
        supply := ⟨.hold, .warm⟩
        dom := { s.dom with ret := { s.ret with points := [], offered := none } }
        fe := ⟨none, 0, 0, none, none, none, false, false⟩
        rest := ⟨.moving, none, none, none, []⟩
        pulse := if s.pulse.state = .idle then s.pulse else ⟨.idle, 0, false, none, none⟩
        link := stoppedLink
        fp := ⟨none, none⟩
        table := ⟨[], s.table.pin⟩
        bond := ⟨none, none, none, none, 0, none, none, false, false⟩
        comm := stoppedCommissioning }))
      ∧ (s.supply.state ≠ .run → exec .supplyBelowHoldLevel s = .next s)
      ∧ (s.supply.state = .hold ∨ s.supply.state = .reset → ∃ t, exec .supplyBelowRetentionLimit s = .next t
          ∧ t.supply = ⟨.off, .cold⟩ ∧ t.dom = Config.lostDomain s.free ∧ t.free = s.free + 1)
      ∧ (s.supply.state ≠ .hold → s.supply.state ≠ .reset → exec .supplyBelowRetentionLimit s = .next s)
end

