-- ==== Sys2Proof/Laws/State.lean ====
section
/-! SUPPORT. One lemma per field of the state per update: what each setter writes and what it leaves. -/

namespace Sys2Proof.Machine

variable (s : State)

/-! `State.setPending`. -/

@[simp] theorem State.setPending_pending (x : List Instr) : (s.setPending x).pending = x := rfl
@[simp] theorem State.setPending_supply (x : List Instr) : (s.setPending x).supply = s.supply := rfl
@[simp] theorem State.setPending_dom (x : List Instr) : (s.setPending x).dom = s.dom := rfl
@[simp] theorem State.setPending_fe (x : List Instr) : (s.setPending x).fe = s.fe := rfl
@[simp] theorem State.setPending_rest (x : List Instr) : (s.setPending x).rest = s.rest := rfl
@[simp] theorem State.setPending_pulse (x : List Instr) : (s.setPending x).pulse = s.pulse := rfl
@[simp] theorem State.setPending_link (x : List Instr) : (s.setPending x).link = s.link := rfl
@[simp] theorem State.setPending_fp (x : List Instr) : (s.setPending x).fp = s.fp := rfl
@[simp] theorem State.setPending_table (x : List Instr) : (s.setPending x).table = s.table := rfl
@[simp] theorem State.setPending_bond (x : List Instr) : (s.setPending x).bond = s.bond := rfl
@[simp] theorem State.setPending_comm (x : List Instr) : (s.setPending x).comm = s.comm := rfl
@[simp] theorem State.setPending_pins (x : List Instr) : (s.setPending x).pins = s.pins := rfl
@[simp] theorem State.setPending_free (x : List Instr) : (s.setPending x).free = s.free := rfl

/-! `State.setSupply`. -/

@[simp] theorem State.setSupply_pending (x : Supply) : (s.setSupply x).pending = s.pending := rfl
@[simp] theorem State.setSupply_supply (x : Supply) : (s.setSupply x).supply = x := rfl
@[simp] theorem State.setSupply_dom (x : Supply) : (s.setSupply x).dom = s.dom := rfl
@[simp] theorem State.setSupply_fe (x : Supply) : (s.setSupply x).fe = s.fe := rfl
@[simp] theorem State.setSupply_rest (x : Supply) : (s.setSupply x).rest = s.rest := rfl
@[simp] theorem State.setSupply_pulse (x : Supply) : (s.setSupply x).pulse = s.pulse := rfl
@[simp] theorem State.setSupply_link (x : Supply) : (s.setSupply x).link = s.link := rfl
@[simp] theorem State.setSupply_fp (x : Supply) : (s.setSupply x).fp = s.fp := rfl
@[simp] theorem State.setSupply_table (x : Supply) : (s.setSupply x).table = s.table := rfl
@[simp] theorem State.setSupply_bond (x : Supply) : (s.setSupply x).bond = s.bond := rfl
@[simp] theorem State.setSupply_comm (x : Supply) : (s.setSupply x).comm = s.comm := rfl
@[simp] theorem State.setSupply_pins (x : Supply) : (s.setSupply x).pins = s.pins := rfl
@[simp] theorem State.setSupply_free (x : Supply) : (s.setSupply x).free = s.free := rfl

/-! `State.setDom`. -/

@[simp] theorem State.setDom_pending (x : Domain) : (s.setDom x).pending = s.pending := rfl
@[simp] theorem State.setDom_supply (x : Domain) : (s.setDom x).supply = s.supply := rfl
@[simp] theorem State.setDom_dom (x : Domain) : (s.setDom x).dom = x := rfl
@[simp] theorem State.setDom_fe (x : Domain) : (s.setDom x).fe = s.fe := rfl
@[simp] theorem State.setDom_rest (x : Domain) : (s.setDom x).rest = s.rest := rfl
@[simp] theorem State.setDom_pulse (x : Domain) : (s.setDom x).pulse = s.pulse := rfl
@[simp] theorem State.setDom_link (x : Domain) : (s.setDom x).link = s.link := rfl
@[simp] theorem State.setDom_fp (x : Domain) : (s.setDom x).fp = s.fp := rfl
@[simp] theorem State.setDom_table (x : Domain) : (s.setDom x).table = s.table := rfl
@[simp] theorem State.setDom_bond (x : Domain) : (s.setDom x).bond = s.bond := rfl
@[simp] theorem State.setDom_comm (x : Domain) : (s.setDom x).comm = s.comm := rfl
@[simp] theorem State.setDom_pins (x : Domain) : (s.setDom x).pins = s.pins := rfl
@[simp] theorem State.setDom_free (x : Domain) : (s.setDom x).free = s.free := rfl

/-! `State.setFe`. -/

@[simp] theorem State.setFe_pending (x : FrontEnd) : (s.setFe x).pending = s.pending := rfl
@[simp] theorem State.setFe_supply (x : FrontEnd) : (s.setFe x).supply = s.supply := rfl
@[simp] theorem State.setFe_dom (x : FrontEnd) : (s.setFe x).dom = s.dom := rfl
@[simp] theorem State.setFe_fe (x : FrontEnd) : (s.setFe x).fe = x := rfl
@[simp] theorem State.setFe_rest (x : FrontEnd) : (s.setFe x).rest = s.rest := rfl
@[simp] theorem State.setFe_pulse (x : FrontEnd) : (s.setFe x).pulse = s.pulse := rfl
@[simp] theorem State.setFe_link (x : FrontEnd) : (s.setFe x).link = s.link := rfl
@[simp] theorem State.setFe_fp (x : FrontEnd) : (s.setFe x).fp = s.fp := rfl
@[simp] theorem State.setFe_table (x : FrontEnd) : (s.setFe x).table = s.table := rfl
@[simp] theorem State.setFe_bond (x : FrontEnd) : (s.setFe x).bond = s.bond := rfl
@[simp] theorem State.setFe_comm (x : FrontEnd) : (s.setFe x).comm = s.comm := rfl
@[simp] theorem State.setFe_pins (x : FrontEnd) : (s.setFe x).pins = s.pins := rfl
@[simp] theorem State.setFe_free (x : FrontEnd) : (s.setFe x).free = s.free := rfl

/-! `State.setRest`. -/

@[simp] theorem State.setRest_pending (x : RestDetector) : (s.setRest x).pending = s.pending := rfl
@[simp] theorem State.setRest_supply (x : RestDetector) : (s.setRest x).supply = s.supply := rfl
@[simp] theorem State.setRest_dom (x : RestDetector) : (s.setRest x).dom = s.dom := rfl
@[simp] theorem State.setRest_fe (x : RestDetector) : (s.setRest x).fe = s.fe := rfl
@[simp] theorem State.setRest_rest (x : RestDetector) : (s.setRest x).rest = x := rfl
@[simp] theorem State.setRest_pulse (x : RestDetector) : (s.setRest x).pulse = s.pulse := rfl
@[simp] theorem State.setRest_link (x : RestDetector) : (s.setRest x).link = s.link := rfl
@[simp] theorem State.setRest_fp (x : RestDetector) : (s.setRest x).fp = s.fp := rfl
@[simp] theorem State.setRest_table (x : RestDetector) : (s.setRest x).table = s.table := rfl
@[simp] theorem State.setRest_bond (x : RestDetector) : (s.setRest x).bond = s.bond := rfl
@[simp] theorem State.setRest_comm (x : RestDetector) : (s.setRest x).comm = s.comm := rfl
@[simp] theorem State.setRest_pins (x : RestDetector) : (s.setRest x).pins = s.pins := rfl
@[simp] theorem State.setRest_free (x : RestDetector) : (s.setRest x).free = s.free := rfl

/-! `State.setPulse`. -/

@[simp] theorem State.setPulse_pending (x : PulseEngine) : (s.setPulse x).pending = s.pending := rfl
@[simp] theorem State.setPulse_supply (x : PulseEngine) : (s.setPulse x).supply = s.supply := rfl
@[simp] theorem State.setPulse_dom (x : PulseEngine) : (s.setPulse x).dom = s.dom := rfl
@[simp] theorem State.setPulse_fe (x : PulseEngine) : (s.setPulse x).fe = s.fe := rfl
@[simp] theorem State.setPulse_rest (x : PulseEngine) : (s.setPulse x).rest = s.rest := rfl
@[simp] theorem State.setPulse_pulse (x : PulseEngine) : (s.setPulse x).pulse = x := rfl
@[simp] theorem State.setPulse_link (x : PulseEngine) : (s.setPulse x).link = s.link := rfl
@[simp] theorem State.setPulse_fp (x : PulseEngine) : (s.setPulse x).fp = s.fp := rfl
@[simp] theorem State.setPulse_table (x : PulseEngine) : (s.setPulse x).table = s.table := rfl
@[simp] theorem State.setPulse_bond (x : PulseEngine) : (s.setPulse x).bond = s.bond := rfl
@[simp] theorem State.setPulse_comm (x : PulseEngine) : (s.setPulse x).comm = s.comm := rfl
@[simp] theorem State.setPulse_pins (x : PulseEngine) : (s.setPulse x).pins = s.pins := rfl
@[simp] theorem State.setPulse_free (x : PulseEngine) : (s.setPulse x).free = s.free := rfl

/-! `State.setLink`. -/

@[simp] theorem State.setLink_pending (x : Link) : (s.setLink x).pending = s.pending := rfl
@[simp] theorem State.setLink_supply (x : Link) : (s.setLink x).supply = s.supply := rfl
@[simp] theorem State.setLink_dom (x : Link) : (s.setLink x).dom = s.dom := rfl
@[simp] theorem State.setLink_fe (x : Link) : (s.setLink x).fe = s.fe := rfl
@[simp] theorem State.setLink_rest (x : Link) : (s.setLink x).rest = s.rest := rfl
@[simp] theorem State.setLink_pulse (x : Link) : (s.setLink x).pulse = s.pulse := rfl
@[simp] theorem State.setLink_link (x : Link) : (s.setLink x).link = x := rfl
@[simp] theorem State.setLink_fp (x : Link) : (s.setLink x).fp = s.fp := rfl
@[simp] theorem State.setLink_table (x : Link) : (s.setLink x).table = s.table := rfl
@[simp] theorem State.setLink_bond (x : Link) : (s.setLink x).bond = s.bond := rfl
@[simp] theorem State.setLink_comm (x : Link) : (s.setLink x).comm = s.comm := rfl
@[simp] theorem State.setLink_pins (x : Link) : (s.setLink x).pins = s.pins := rfl
@[simp] theorem State.setLink_free (x : Link) : (s.setLink x).free = s.free := rfl

/-! `State.setFp`. -/

@[simp] theorem State.setFp_pending (x : FrameProcessor) : (s.setFp x).pending = s.pending := rfl
@[simp] theorem State.setFp_supply (x : FrameProcessor) : (s.setFp x).supply = s.supply := rfl
@[simp] theorem State.setFp_dom (x : FrameProcessor) : (s.setFp x).dom = s.dom := rfl
@[simp] theorem State.setFp_fe (x : FrameProcessor) : (s.setFp x).fe = s.fe := rfl
@[simp] theorem State.setFp_rest (x : FrameProcessor) : (s.setFp x).rest = s.rest := rfl
@[simp] theorem State.setFp_pulse (x : FrameProcessor) : (s.setFp x).pulse = s.pulse := rfl
@[simp] theorem State.setFp_link (x : FrameProcessor) : (s.setFp x).link = s.link := rfl
@[simp] theorem State.setFp_fp (x : FrameProcessor) : (s.setFp x).fp = x := rfl
@[simp] theorem State.setFp_table (x : FrameProcessor) : (s.setFp x).table = s.table := rfl
@[simp] theorem State.setFp_bond (x : FrameProcessor) : (s.setFp x).bond = s.bond := rfl
@[simp] theorem State.setFp_comm (x : FrameProcessor) : (s.setFp x).comm = s.comm := rfl
@[simp] theorem State.setFp_pins (x : FrameProcessor) : (s.setFp x).pins = s.pins := rfl
@[simp] theorem State.setFp_free (x : FrameProcessor) : (s.setFp x).free = s.free := rfl

/-! `State.setTable`. -/

@[simp] theorem State.setTable_pending (x : PeerTable) : (s.setTable x).pending = s.pending := rfl
@[simp] theorem State.setTable_supply (x : PeerTable) : (s.setTable x).supply = s.supply := rfl
@[simp] theorem State.setTable_dom (x : PeerTable) : (s.setTable x).dom = s.dom := rfl
@[simp] theorem State.setTable_fe (x : PeerTable) : (s.setTable x).fe = s.fe := rfl
@[simp] theorem State.setTable_rest (x : PeerTable) : (s.setTable x).rest = s.rest := rfl
@[simp] theorem State.setTable_pulse (x : PeerTable) : (s.setTable x).pulse = s.pulse := rfl
@[simp] theorem State.setTable_link (x : PeerTable) : (s.setTable x).link = s.link := rfl
@[simp] theorem State.setTable_fp (x : PeerTable) : (s.setTable x).fp = s.fp := rfl
@[simp] theorem State.setTable_table (x : PeerTable) : (s.setTable x).table = x := rfl
@[simp] theorem State.setTable_bond (x : PeerTable) : (s.setTable x).bond = s.bond := rfl
@[simp] theorem State.setTable_comm (x : PeerTable) : (s.setTable x).comm = s.comm := rfl
@[simp] theorem State.setTable_pins (x : PeerTable) : (s.setTable x).pins = s.pins := rfl
@[simp] theorem State.setTable_free (x : PeerTable) : (s.setTable x).free = s.free := rfl

/-! `State.setBond`. -/

@[simp] theorem State.setBond_pending (x : BondEngine) : (s.setBond x).pending = s.pending := rfl
@[simp] theorem State.setBond_supply (x : BondEngine) : (s.setBond x).supply = s.supply := rfl
@[simp] theorem State.setBond_dom (x : BondEngine) : (s.setBond x).dom = s.dom := rfl
@[simp] theorem State.setBond_fe (x : BondEngine) : (s.setBond x).fe = s.fe := rfl
@[simp] theorem State.setBond_rest (x : BondEngine) : (s.setBond x).rest = s.rest := rfl
@[simp] theorem State.setBond_pulse (x : BondEngine) : (s.setBond x).pulse = s.pulse := rfl
@[simp] theorem State.setBond_link (x : BondEngine) : (s.setBond x).link = s.link := rfl
@[simp] theorem State.setBond_fp (x : BondEngine) : (s.setBond x).fp = s.fp := rfl
@[simp] theorem State.setBond_table (x : BondEngine) : (s.setBond x).table = s.table := rfl
@[simp] theorem State.setBond_bond (x : BondEngine) : (s.setBond x).bond = x := rfl
@[simp] theorem State.setBond_comm (x : BondEngine) : (s.setBond x).comm = s.comm := rfl
@[simp] theorem State.setBond_pins (x : BondEngine) : (s.setBond x).pins = s.pins := rfl
@[simp] theorem State.setBond_free (x : BondEngine) : (s.setBond x).free = s.free := rfl

/-! `State.setComm`. -/

@[simp] theorem State.setComm_pending (x : Commissioning) : (s.setComm x).pending = s.pending := rfl
@[simp] theorem State.setComm_supply (x : Commissioning) : (s.setComm x).supply = s.supply := rfl
@[simp] theorem State.setComm_dom (x : Commissioning) : (s.setComm x).dom = s.dom := rfl
@[simp] theorem State.setComm_fe (x : Commissioning) : (s.setComm x).fe = s.fe := rfl
@[simp] theorem State.setComm_rest (x : Commissioning) : (s.setComm x).rest = s.rest := rfl
@[simp] theorem State.setComm_pulse (x : Commissioning) : (s.setComm x).pulse = s.pulse := rfl
@[simp] theorem State.setComm_link (x : Commissioning) : (s.setComm x).link = s.link := rfl
@[simp] theorem State.setComm_fp (x : Commissioning) : (s.setComm x).fp = s.fp := rfl
@[simp] theorem State.setComm_table (x : Commissioning) : (s.setComm x).table = s.table := rfl
@[simp] theorem State.setComm_bond (x : Commissioning) : (s.setComm x).bond = s.bond := rfl
@[simp] theorem State.setComm_comm (x : Commissioning) : (s.setComm x).comm = x := rfl
@[simp] theorem State.setComm_pins (x : Commissioning) : (s.setComm x).pins = s.pins := rfl
@[simp] theorem State.setComm_free (x : Commissioning) : (s.setComm x).free = s.free := rfl

/-! `State.setPins`. -/

@[simp] theorem State.setPins_pending (x : Pins) : (s.setPins x).pending = s.pending := rfl
@[simp] theorem State.setPins_supply (x : Pins) : (s.setPins x).supply = s.supply := rfl
@[simp] theorem State.setPins_dom (x : Pins) : (s.setPins x).dom = s.dom := rfl
@[simp] theorem State.setPins_fe (x : Pins) : (s.setPins x).fe = s.fe := rfl
@[simp] theorem State.setPins_rest (x : Pins) : (s.setPins x).rest = s.rest := rfl
@[simp] theorem State.setPins_pulse (x : Pins) : (s.setPins x).pulse = s.pulse := rfl
@[simp] theorem State.setPins_link (x : Pins) : (s.setPins x).link = s.link := rfl
@[simp] theorem State.setPins_fp (x : Pins) : (s.setPins x).fp = s.fp := rfl
@[simp] theorem State.setPins_table (x : Pins) : (s.setPins x).table = s.table := rfl
@[simp] theorem State.setPins_bond (x : Pins) : (s.setPins x).bond = s.bond := rfl
@[simp] theorem State.setPins_comm (x : Pins) : (s.setPins x).comm = s.comm := rfl
@[simp] theorem State.setPins_pins (x : Pins) : (s.setPins x).pins = x := rfl
@[simp] theorem State.setPins_free (x : Pins) : (s.setPins x).free = s.free := rfl

/-! `State.setRet`: the covered items of the domain, and nothing else. -/

@[simp] theorem State.setRet_pending (x : Retained) : (s.setRet x).pending = s.pending := rfl
@[simp] theorem State.setRet_supply (x : Retained) : (s.setRet x).supply = s.supply := rfl
@[simp] theorem State.setRet_dom (x : Retained) : (s.setRet x).dom = { s.dom with ret := x } := rfl
@[simp] theorem State.setRet_fe (x : Retained) : (s.setRet x).fe = s.fe := rfl
@[simp] theorem State.setRet_rest (x : Retained) : (s.setRet x).rest = s.rest := rfl
@[simp] theorem State.setRet_pulse (x : Retained) : (s.setRet x).pulse = s.pulse := rfl
@[simp] theorem State.setRet_link (x : Retained) : (s.setRet x).link = s.link := rfl
@[simp] theorem State.setRet_fp (x : Retained) : (s.setRet x).fp = s.fp := rfl
@[simp] theorem State.setRet_table (x : Retained) : (s.setRet x).table = s.table := rfl
@[simp] theorem State.setRet_bond (x : Retained) : (s.setRet x).bond = s.bond := rfl
@[simp] theorem State.setRet_comm (x : Retained) : (s.setRet x).comm = s.comm := rfl
@[simp] theorem State.setRet_pins (x : Retained) : (s.setRet x).pins = s.pins := rfl
@[simp] theorem State.setRet_free (x : Retained) : (s.setRet x).free = s.free := rfl

/-! The readings `ret`, `seconds` and `grade` go through the domain. -/

@[simp] theorem State.setPending_ret (x : List Instr) : (s.setPending x).ret = s.ret := rfl
@[simp] theorem State.setPending_seconds (x : List Instr) : (s.setPending x).seconds = s.seconds := rfl
@[simp] theorem State.setPending_grade (x : List Instr) : (s.setPending x).grade = s.grade := rfl
@[simp] theorem State.setSupply_ret (x : Supply) : (s.setSupply x).ret = s.ret := rfl
@[simp] theorem State.setSupply_seconds (x : Supply) : (s.setSupply x).seconds = s.seconds := rfl
@[simp] theorem State.setSupply_grade (x : Supply) : (s.setSupply x).grade = s.grade := rfl
@[simp] theorem State.setFe_ret (x : FrontEnd) : (s.setFe x).ret = s.ret := rfl
@[simp] theorem State.setFe_seconds (x : FrontEnd) : (s.setFe x).seconds = s.seconds := rfl
@[simp] theorem State.setFe_grade (x : FrontEnd) : (s.setFe x).grade = s.grade := rfl
@[simp] theorem State.setRest_ret (x : RestDetector) : (s.setRest x).ret = s.ret := rfl
@[simp] theorem State.setRest_seconds (x : RestDetector) : (s.setRest x).seconds = s.seconds := rfl
@[simp] theorem State.setRest_grade (x : RestDetector) : (s.setRest x).grade = s.grade := rfl
@[simp] theorem State.setPulse_ret (x : PulseEngine) : (s.setPulse x).ret = s.ret := rfl
@[simp] theorem State.setPulse_seconds (x : PulseEngine) : (s.setPulse x).seconds = s.seconds := rfl
@[simp] theorem State.setPulse_grade (x : PulseEngine) : (s.setPulse x).grade = s.grade := rfl
@[simp] theorem State.setLink_ret (x : Link) : (s.setLink x).ret = s.ret := rfl
@[simp] theorem State.setLink_seconds (x : Link) : (s.setLink x).seconds = s.seconds := rfl
@[simp] theorem State.setLink_grade (x : Link) : (s.setLink x).grade = s.grade := rfl
@[simp] theorem State.setFp_ret (x : FrameProcessor) : (s.setFp x).ret = s.ret := rfl
@[simp] theorem State.setFp_seconds (x : FrameProcessor) : (s.setFp x).seconds = s.seconds := rfl
@[simp] theorem State.setFp_grade (x : FrameProcessor) : (s.setFp x).grade = s.grade := rfl
@[simp] theorem State.setTable_ret (x : PeerTable) : (s.setTable x).ret = s.ret := rfl
@[simp] theorem State.setTable_seconds (x : PeerTable) : (s.setTable x).seconds = s.seconds := rfl
@[simp] theorem State.setTable_grade (x : PeerTable) : (s.setTable x).grade = s.grade := rfl
@[simp] theorem State.setBond_ret (x : BondEngine) : (s.setBond x).ret = s.ret := rfl
@[simp] theorem State.setBond_seconds (x : BondEngine) : (s.setBond x).seconds = s.seconds := rfl
@[simp] theorem State.setBond_grade (x : BondEngine) : (s.setBond x).grade = s.grade := rfl
@[simp] theorem State.setComm_ret (x : Commissioning) : (s.setComm x).ret = s.ret := rfl
@[simp] theorem State.setComm_seconds (x : Commissioning) : (s.setComm x).seconds = s.seconds := rfl
@[simp] theorem State.setComm_grade (x : Commissioning) : (s.setComm x).grade = s.grade := rfl
@[simp] theorem State.setPins_ret (x : Pins) : (s.setPins x).ret = s.ret := rfl
@[simp] theorem State.setPins_seconds (x : Pins) : (s.setPins x).seconds = s.seconds := rfl
@[simp] theorem State.setPins_grade (x : Pins) : (s.setPins x).grade = s.grade := rfl
@[simp] theorem State.setDom_ret (x : Domain) : (s.setDom x).ret = x.ret := rfl
@[simp] theorem State.setDom_seconds (x : Domain) : (s.setDom x).seconds = x.seconds := rfl
@[simp] theorem State.setDom_grade (x : Domain) : (s.setDom x).grade = x.ret.grade := rfl
@[simp] theorem State.setRet_ret (x : Retained) : (s.setRet x).ret = x := rfl
@[simp] theorem State.setRet_seconds (x : Retained) : (s.setRet x).seconds = s.seconds := rfl
@[simp] theorem State.setRet_grade (x : Retained) : (s.setRet x).grade = x.grade := rfl

end Sys2Proof.Machine
end

