-- ==== Sys2Proof/Laws/Link.lean ====
section
/-! SUPPORT. What sampling line bits leaves alone, and what an offer and a withdrawal leave alone, and which frame the
queue takes and the bond engine withdraws. -/

namespace Sys2Proof.Machine

/-- One bit touches the receiver, the closed frames, the two due marks and the attempt only. -/
theorem sampleBit_frame (held : Option Nat) (stuckAt : Nat) (l : Link) (b : Bool) :
    (sampleBit held stuckAt l b).queue = l.queue ∧ (sampleBit held stuckAt l b).fifo = l.fifo
      ∧ (sampleBit held stuckAt l b).transmitter = l.transmitter ∧ (sampleBit held stuckAt l b).holdoff = l.holdoff
      ∧ (sampleBit held stuckAt l b).lineFault = l.lineFault ∧ (sampleBit held stuckAt l b).overrunFlag = l.overrunFlag
      ∧ (sampleBit held stuckAt l b).newOverrun = l.newOverrun ∧ (sampleBit held stuckAt l b).mode = l.mode := by
  unfold sampleBit; split <;> simp

theorem sampleBits_frame (held : Option Nat) (stuckAt : Nat) (bits : List Bool) :
    ∀ l : Link, (sampleBits held stuckAt l bits).queue = l.queue ∧ (sampleBits held stuckAt l bits).fifo = l.fifo
      ∧ (sampleBits held stuckAt l bits).transmitter = l.transmitter
      ∧ (sampleBits held stuckAt l bits).holdoff = l.holdoff
      ∧ (sampleBits held stuckAt l bits).lineFault = l.lineFault
      ∧ (sampleBits held stuckAt l bits).overrunFlag = l.overrunFlag
      ∧ (sampleBits held stuckAt l bits).newOverrun = l.newOverrun
      ∧ (sampleBits held stuckAt l bits).mode = l.mode := by
  induction bits with
  | nil => intro l; simp [sampleBits]
  | cons b bs ih =>
    intro l
    have h := ih (sampleBit held stuckAt l b)
    have f := sampleBit_frame held stuckAt l b
    simp only [sampleBits, List.foldl_cons] at h ⊢
    exact ⟨h.1.trans f.1, h.2.1.trans f.2.1, h.2.2.1.trans f.2.2.1, h.2.2.2.1.trans f.2.2.2.1,
      h.2.2.2.2.1.trans f.2.2.2.2.1, h.2.2.2.2.2.1.trans f.2.2.2.2.2.1,
      h.2.2.2.2.2.2.1.trans f.2.2.2.2.2.2.1, h.2.2.2.2.2.2.2.trans f.2.2.2.2.2.2.2⟩

variable (bits : List Bool) (s : State)

@[simp] theorem sampled_queue : (sampled bits s).link.queue = s.link.queue := (sampleBits_frame _ _ bits s.link).1
@[simp] theorem sampled_fifo : (sampled bits s).link.fifo = s.link.fifo := (sampleBits_frame _ _ bits s.link).2.1
@[simp] theorem sampled_transmitter : (sampled bits s).link.transmitter = s.link.transmitter :=
  (sampleBits_frame _ _ bits s.link).2.2.1
@[simp] theorem sampled_mode : (sampled bits s).link.mode = s.link.mode :=
  (sampleBits_frame _ _ bits s.link).2.2.2.2.2.2.2
@[simp] theorem sampled_ret : (sampled bits s).ret = s.ret := rfl
@[simp] theorem sampled_comm : (sampled bits s).comm = s.comm := rfl
@[simp] theorem sampled_prof : prof (sampled bits s) = prof s := rfl

/-- An offer touches the queue and the transmitter only. -/
theorem offerFrame_frame (l : Link) (f : Frame) :
    offerFrame l f = { l with queue := (offerFrame l f).queue, transmitter := (offerFrame l f).transmitter } := by
  unfold offerFrame transmitterFollows
  cases l.transmitter <;> dsimp only <;> first | rfl | (split <;> rfl)

/-- A withdrawal touches the queue and the transmitter only. -/
theorem withdrawFrame_frame (l : Link) (p : Frame → Bool) :
    withdrawFrame l p = { l with queue := (withdrawFrame l p).queue, transmitter := (withdrawFrame l p).transmitter } := by
  unfold withdrawFrame transmitterFollows
  cases l.transmitter <;> dsimp only <;> first | rfl | (split <;> rfl)

@[simp] theorem transmitterFollows_queue (l : Link) : (transmitterFollows l).queue = l.queue := by
  unfold transmitterFollows
  cases l.transmitter <;> dsimp only <;> first | rfl | (split <;> rfl)

@[simp] theorem offerFrame_queue (l : Link) (f : Frame) : (offerFrame l f).queue = queueAfterOffer l f := by
  simp [offerFrame]

/-- The queue takes a frame exactly when its offer changes the queue. -/
theorem queueTakes_iff (l : Link) (f : Frame) : queueTakes l f = true ↔ (offerFrame l f).queue ≠ l.queue := by
  simp [queueTakes]

/-- A frame the queue takes stands at its end: it is the newest of its kind there (R95, R96; log entry 16). -/
theorem queueTakes_last {l : Link} {f : Frame} (h : queueTakes l f = true) : ∃ q, (offerFrame l f).queue = q ++ [f] := by
  rw [queueTakes_iff, offerFrame_queue] at h
  rw [offerFrame_queue]
  unfold queueAfterOffer at h ⊢
  split
  · simp_all
  · split
    · simp_all
    · split
      · exact ⟨_, rfl⟩
      · split
        · simp_all
        · dsimp only
          split
          · exact ⟨_, rfl⟩
          · simp_all

/-- All that leaving PROPOSING does to the queue: the PROPOSE of the proposal under way is withdrawn, if the queue took it. -/
theorem withdrawPropose_cases (s : State) :
    withdrawPropose s = s ∨ ∃ n, s.ret.bondState = .proposing ∧ s.ret.engaged = some n ∧ s.bond.proposeTaken = true
      ∧ withdrawPropose s = s.setLink (withdrawFrame s.link (isProposeTo n)) := by
  unfold withdrawPropose
  split
  · rename_i n hb he
    split
    · exact .inr ⟨n, hb, he, ‹_›, rfl⟩
    · exact .inl rfl
  · exact .inl rfl

end Sys2Proof.Machine
end

