-- ==== Sys2Proof/Laws/Ops.lean ====
section
/-! SUPPORT. What the shared operations of every command can do: `settle` field by field, and the forms of answer. -/

namespace Sys2Proof.Machine

variable (s t : State)

/-! The segment feed touches the queue, the transmitter and the share broadcast only. -/

theorem feedSegment_cases :
    feedSegment s = s ∨ ∃ i, s.comm.share = some i ∧ s.link.mode = .up ∧ s.link.queue.length < Config.queuePlaces ∧
      s.link.queue.any isSegment = false ∧
      feedSegment s = (s.setLink (transmitterFollows { s.link with queue := s.link.queue ++ [segmentFrame s i] })).setComm
        { s.comm with share := if i + 1 < segmentCount s then some (i + 1) else none } := by
  unfold feedSegment
  split
  · rename_i i hi
    split
    · rename_i h
      exact .inr ⟨i, hi, h.1, h.2.1, h.2.2, rfl⟩
    · exact .inl rfl
  · exact .inl rfl

theorem feedSegment_idle (h : s.comm.share = none) : feedSegment s = s := by simp [feedSegment, h]

theorem feedSegment_frame :
    (feedSegment s).pending = s.pending ∧ (feedSegment s).supply = s.supply ∧ (feedSegment s).dom = s.dom ∧
      (feedSegment s).fe = s.fe ∧ (feedSegment s).rest = s.rest ∧ (feedSegment s).pulse = s.pulse ∧
      (feedSegment s).fp = s.fp ∧ (feedSegment s).table = s.table ∧ (feedSegment s).bond = s.bond ∧
      (feedSegment s).pins = s.pins ∧ (feedSegment s).free = s.free := by
  rcases feedSegment_cases s with h | ⟨i, -, -, -, -, h⟩ <;> rw [h] <;> simp

/-! The pins and the check value. -/

@[simp] theorem drivePins_idem : drivePins (drivePins s) = drivePins s := rfl

theorem reseal_cases : reseal s = s ∨ reseal s = s.setDom { s.dom with check := retentionCheck s.ret } := by
  unfold reseal; split
  · exact .inl rfl
  · exact .inr rfl

theorem reseal_off (h : s.supply.state = .off) : reseal s = s := by simp [reseal, h]

theorem reseal_on (h : s.supply.state ≠ .off) : reseal s = s.setDom { s.dom with check := retentionCheck s.ret } := by
  simp [reseal, h]

@[simp] theorem drivePins_reseal : drivePins (reseal s) = reseal (drivePins s) := by
  unfold reseal; split
  · rename_i h; rw [if_pos (show (drivePins s).supply.state = .off from h)]
  · rename_i h; rw [if_neg (show ¬ (drivePins s).supply.state = .off from h)]; rfl

/-! `settle`, field by field. -/

@[simp] theorem settle_pending : (settle s).pending = s.pending := by
  unfold settle; rcases reseal_cases (drivePins (feedSegment s)) with h | h <;> rw [h] <;> exact (feedSegment_frame s).1

@[simp] theorem settle_supply : (settle s).supply = s.supply := by
  unfold settle; rcases reseal_cases (drivePins (feedSegment s)) with h | h <;> rw [h] <;> exact (feedSegment_frame s).2.1

@[simp] theorem settle_ret : (settle s).ret = s.ret := by
  have h := (feedSegment_frame s).2.2.1
  unfold settle
  rcases reseal_cases (drivePins (feedSegment s)) with h' | h' <;> rw [h'] <;>
    simp [drivePins, State.ret, h]

@[simp] theorem settle_seconds : (settle s).seconds = s.seconds := by
  have h := (feedSegment_frame s).2.2.1
  unfold settle
  rcases reseal_cases (drivePins (feedSegment s)) with h' | h' <;> rw [h'] <;>
    simp [drivePins, State.seconds, h]

@[simp] theorem settle_grade : (settle s).grade = s.grade := congrArg Retained.grade (settle_ret s)

@[simp] theorem settle_fe : (settle s).fe = s.fe := by
  unfold settle; rcases reseal_cases (drivePins (feedSegment s)) with h | h <;> rw [h] <;>
    exact (feedSegment_frame s).2.2.2.1

@[simp] theorem settle_rest : (settle s).rest = s.rest := by
  unfold settle; rcases reseal_cases (drivePins (feedSegment s)) with h | h <;> rw [h] <;>
    exact (feedSegment_frame s).2.2.2.2.1

@[simp] theorem settle_pulse : (settle s).pulse = s.pulse := by
  unfold settle; rcases reseal_cases (drivePins (feedSegment s)) with h | h <;> rw [h] <;>
    exact (feedSegment_frame s).2.2.2.2.2.1

@[simp] theorem settle_fp : (settle s).fp = s.fp := by
  unfold settle; rcases reseal_cases (drivePins (feedSegment s)) with h | h <;> rw [h] <;>
    exact (feedSegment_frame s).2.2.2.2.2.2.1

@[simp] theorem settle_table : (settle s).table = s.table := by
  unfold settle; rcases reseal_cases (drivePins (feedSegment s)) with h | h <;> rw [h] <;>
    exact (feedSegment_frame s).2.2.2.2.2.2.2.1

@[simp] theorem settle_bond : (settle s).bond = s.bond := by
  unfold settle; rcases reseal_cases (drivePins (feedSegment s)) with h | h <;> rw [h] <;>
    exact (feedSegment_frame s).2.2.2.2.2.2.2.2.1

@[simp] theorem settle_free : (settle s).free = s.free := by
  unfold settle; rcases reseal_cases (drivePins (feedSegment s)) with h | h <;> rw [h] <;>
    exact (feedSegment_frame s).2.2.2.2.2.2.2.2.2.2

theorem settle_link : (settle s).link = (feedSegment s).link := by
  unfold settle; rcases reseal_cases (drivePins (feedSegment s)) with h | h <;> rw [h] <;> rfl

theorem settle_comm : (settle s).comm = (feedSegment s).comm := by
  unfold settle; rcases reseal_cases (drivePins (feedSegment s)) with h | h <;> rw [h] <;> rfl

/-- Outside OFF the check value agrees with the contents at the end of every event. -/
theorem settle_check (h : s.supply.state ≠ .off) : (settle s).dom.check = retentionCheck s.ret := by
  have hf := feedSegment_frame s
  have hoff : (drivePins (feedSegment s)).supply.state ≠ .off := by
    show (feedSegment s).supply.state ≠ .off
    rw [hf.2.1]; exact h
  unfold settle
  rw [reseal_on _ hoff]
  show retentionCheck (drivePins (feedSegment s)).ret = retentionCheck s.ret
  have : (drivePins (feedSegment s)).ret = s.ret := by
    show (feedSegment s).dom.ret = s.dom.ret
    rw [hf.2.2.1]
  rw [this]

/-- The words and the two copies of the seconds counter are not touched at the end of an event. -/
theorem settle_words : (settle s).dom.word1 = s.dom.word1 ∧ (settle s).dom.word2 = s.dom.word2 ∧
    (settle s).dom.seconds = s.dom.seconds ∧ (settle s).dom.secondsCopy = s.dom.secondsCopy := by
  have h : (feedSegment s).dom = s.dom := (feedSegment_frame s).2.2.1
  unfold settle
  rcases reseal_cases (drivePins (feedSegment s)) with h' | h' <;> rw [h'] <;> simp [drivePins, h]

/-- The pins follow the state at the end of every event. -/
@[simp] theorem drivePins_settle : drivePins (settle s) = settle s := by
  unfold settle; rw [drivePins_reseal, drivePins_idem]

/-! A pulse abandoned. -/

/-- In IDLE the engine stands; otherwise it is in IDLE with everything cleared. -/
theorem abandonPulse_cases (p : PulseEngine) :
    (p.state = .idle ∧ abandonPulse p = p) ∨ (p.state ≠ .idle ∧ abandonPulse p = idlePulse) := by
  unfold abandonPulse
  cases h : p.state <;> simp

/-- As the conditional the statements write. -/
theorem abandonPulse_eq (p : PulseEngine) : abandonPulse p = if p.state = .idle then p else idlePulse := by
  rcases abandonPulse_cases p with ⟨h, e⟩ | ⟨h, e⟩ <;> rw [e] <;> simp [h]

@[simp] theorem abandonPulse_state (p : PulseEngine) : (abandonPulse p).state = .idle := by
  rcases abandonPulse_cases p with ⟨h, e⟩ | ⟨-, e⟩ <;> rw [e]
  · exact h
  · rfl

/-! The forms of answer. -/

@[simp] theorem done_eq : done s = .next (settle s) := rfl

@[simp] theorem noEvent_eq : noEvent s = .next s := rfl

@[simp] theorem whenever_true : whenever true s t = .next (settle t) := rfl

@[simp] theorem whenever_false : whenever false s t = .next s := rfl

/-- The event occurred and its effect is settled, or nothing changed. -/
theorem whenever_next {p : Bool} {s n t : State} (h : whenever p s n = .next t) :
    (p = true ∧ t = settle n) ∨ (p = false ∧ t = s) := by
  cases p
  · exact .inr ⟨rfl, (Host.Outcome.next.inj h).symm⟩
  · exact .inl ⟨rfl, (Host.Outcome.next.inj h).symm⟩

/-- A line command samples its bits, and has its effect where the line has shown the event. -/
theorem lineStep_next {bits : List Bool} {shown : State → Bool} {effect : State → State} {s t : State}
    (h : lineStep bits shown effect s = .next t) :
    (inRun s = true ∧ shown (sampled bits s) = true ∧ t = settle (effect (sampled bits s)))
      ∨ (inRun s = true ∧ shown (sampled bits s) = false ∧ t = settle (sampled bits s))
      ∨ (inRun s = false ∧ t = s) := by
  rcases whenever_next h with ⟨hr, ht⟩ | ⟨hr, ht⟩
  · cases hs : shown (sampled bits s) with
    | true => exact .inl ⟨hr, rfl, by simpa [hs] using ht⟩
    | false => exact .inr (.inl ⟨hr, rfl, by simpa [hs] using ht⟩)
  · exact .inr (.inr ⟨hr, ht⟩)

/-- A frame command takes the oldest frame when it is of its row, and hands it on when it is well formed. -/
theorem frameStep_next {row : Frame → Bool} {handOn : Frame → State → State} {s t : State}
    (h : frameStep row handOn s = .next t) :
    (∃ f, frontFrame s = some f ∧ inRun s = true ∧ row f = true ∧ wellFormed f = true ∧
        t = settle (putDown (handOn f (takeInHand s))))
      ∨ (∃ f, frontFrame s = some f ∧ inRun s = true ∧ row f = true ∧ wellFormed f = false ∧
        t = settle (putDown (takeInHand s)))
      ∨ t = s := by
  unfold frameStep at h
  split at h
  · rename_i f hf
    split at h
    · rename_i hr
      have ht := (Host.Outcome.next.inj h).symm
      cases hw : wellFormed f with
      | true => exact .inl ⟨f, hf, hr.1, hr.2, hw, by simpa [hw] using ht⟩
      | false => exact .inr (.inl ⟨f, hf, hr.1, hr.2, hw, by simpa [hw] using ht⟩)
    · exact .inr (.inr (Host.Outcome.next.inj h).symm)
  · exact .inr (.inr (Host.Outcome.next.inj h).symm)

/-- An answer is the state itself, or a settled state. -/
def Settles (s : State) (a : Answer) : Prop := a = .next s ∨ ∃ x, a = .next (settle x)

theorem done_settles (x : State) : Settles s (done x) := .inr ⟨x, rfl⟩

theorem noEvent_settles : Settles s (noEvent s) := .inl rfl

theorem whenever_settles (p : Bool) (n : State) : Settles s (whenever p s n) := by
  cases p
  · exact noEvent_settles s
  · exact done_settles s n

theorem lineStep_settles (bits : List Bool) (shown : State → Bool) (effect : State → State) :
    Settles s (lineStep bits shown effect s) := whenever_settles s _ _

theorem frameStep_settles (row : Frame → Bool) (handOn : Frame → State → State) :
    Settles s (frameStep row handOn s) := by
  unfold frameStep
  split
  · split
    · exact done_settles s _
    · exact noEvent_settles s
  · exact noEvent_settles s

theorem execChargePulse_settles (dir : Direction) : Settles s (execChargePulse dir s) := by
  unfold execChargePulse; exact whenever_settles s _ _

theorem execWindowClose_settles (vsense : Int) : Settles s (execWindowClose vsense s) := by
  unfold execWindowClose; exact whenever_settles s _ _

theorem execSecondsCounterIncrement_settles (tsense : Int) : Settles s (execSecondsCounterIncrement tsense s) := by
  unfold execSecondsCounterIncrement; exact whenever_settles s _ _

theorem execRestTimerExpiry_settles : Settles s (execRestTimerExpiry s) := by
  unfold execRestTimerExpiry; exact whenever_settles s _ _

theorem execRemovalRequest_settles : Settles s (execRemovalRequest s) := by
  unfold execRemovalRequest; exact whenever_settles s _ _

theorem execLongRestExpiry_settles : Settles s (execLongRestExpiry s) := by
  unfold execLongRestExpiry; exact whenever_settles s _ _

theorem execPeerAgeRemoval_settles (number : Nat) : Settles s (execPeerAgeRemoval number s) := by
  unfold execPeerAgeRemoval; exact whenever_settles s _ _

theorem execDeclineMarkExpiry_settles (number : Nat) : Settles s (execDeclineMarkExpiry number s) := by
  unfold execDeclineMarkExpiry; exact whenever_settles s _ _

theorem execAnnounceTimerExpiry_settles : Settles s (execAnnounceTimerExpiry s) := by
  unfold execAnnounceTimerExpiry; exact whenever_settles s _ _

theorem execProposalTimerExpiry_settles : Settles s (execProposalTimerExpiry s) := by
  unfold execProposalTimerExpiry; exact whenever_settles s _ _

theorem execReplyTimerExpiry_settles : Settles s (execReplyTimerExpiry s) := by
  unfold execReplyTimerExpiry; exact whenever_settles s _ _

theorem execHoldTimerExpiry_settles : Settles s (execHoldTimerExpiry s) := by
  unfold execHoldTimerExpiry; exact whenever_settles s _ _

theorem execPartnerTimerExpiry_settles : Settles s (execPartnerTimerExpiry s) := by
  unfold execPartnerTimerExpiry; exact whenever_settles s _ _

theorem execQuietTimerExpiry_settles : Settles s (execQuietTimerExpiry s) := by
  unfold execQuietTimerExpiry; exact whenever_settles s _ _

theorem execRequestTimerExpiry_settles : Settles s (execRequestTimerExpiry s) := by
  unfold execRequestTimerExpiry; exact whenever_settles s _ _

theorem execHoldoffExpiry_settles : Settles s (execHoldoffExpiry s) := by
  unfold execHoldoffExpiry; exact whenever_settles s _ _

theorem execAttemptBegin_settles (bits : List Bool) : Settles s (execAttemptBegin bits s) := by
  unfold execAttemptBegin; exact lineStep_settles s _ _ _

theorem execArbitrationLoss_settles (bits : List Bool) : Settles s (execArbitrationLoss bits s) := by
  unfold execArbitrationLoss; exact lineStep_settles s _ _ _

theorem execTransmitLineFault_settles (bits : List Bool) : Settles s (execTransmitLineFault bits s) := by
  unfold execTransmitLineFault; exact lineStep_settles s _ _ _

theorem execAttemptComplete_settles (bits : List Bool) : Settles s (execAttemptComplete bits s) := by
  unfold execAttemptComplete; exact lineStep_settles s _ _ _

theorem execStuckDominantLine_settles (bits : List Bool) : Settles s (execStuckDominantLine bits s) := by
  unfold execStuckDominantLine; exact lineStep_settles s _ _ _

theorem execBusReset_settles (bits : List Bool) : Settles s (execBusReset bits s) := by
  unfold execBusReset; exact lineStep_settles s _ _ _

theorem execReceiveAbort_settles (bits : List Bool) : Settles s (execReceiveAbort bits s) := by
  unfold execReceiveAbort; exact lineStep_settles s _ _ _

theorem execFrameReceived_settles (bits : List Bool) : Settles s (execFrameReceived bits s) := by
  unfold execFrameReceived; exact lineStep_settles s _ _ _

theorem execUnknownKind_settles : Settles s (execUnknownKind s) := by
  unfold execUnknownKind; exact frameStep_settles s _ _

theorem execEnum_settles : Settles s (execEnum s) := by
  unfold execEnum; exact frameStep_settles s _ _

theorem execAnnounce_settles : Settles s (execAnnounce s) := by
  unfold execAnnounce; exact frameStep_settles s _ _

theorem execPropose_settles : Settles s (execPropose s) := by
  unfold execPropose; exact frameStep_settles s _ _

theorem execAccept_settles : Settles s (execAccept s) := by
  unfold execAccept; exact frameStep_settles s _ _

theorem execDecline_settles : Settles s (execDecline s) := by
  unfold execDecline; exact frameStep_settles s _ _

theorem execConfirm_settles : Settles s (execConfirm s) := by
  unfold execConfirm; exact frameStep_settles s _ _

theorem execRelease_settles : Settles s (execRelease s) := by
  unfold execRelease; exact frameStep_settles s _ _

theorem execQuery_settles : Settles s (execQuery s) := by
  unfold execQuery; exact frameStep_settles s _ _

theorem execGrade_settles : Settles s (execGrade s) := by
  unfold execGrade; exact frameStep_settles s _ _

theorem execCampaignStart_settles : Settles s (execCampaignStart s) := by
  unfold execCampaignStart; exact frameStep_settles s _ _

theorem execCampaignFreeze_settles : Settles s (execCampaignFreeze s) := by
  unfold execCampaignFreeze; exact frameStep_settles s _ _

theorem execCampaignRegrade_settles : Settles s (execCampaignRegrade s) := by
  unfold execCampaignRegrade; exact frameStep_settles s _ _

theorem execCampaignReleaseAll_settles : Settles s (execCampaignReleaseAll s) := by
  unfold execCampaignReleaseAll; exact frameStep_settles s _ _

theorem execCampaignUnknownAction_settles : Settles s (execCampaignUnknownAction s) := by
  unfold execCampaignUnknownAction; exact frameStep_settles s _ _

theorem execProfileRequest_settles : Settles s (execProfileRequest s) := by
  unfold execProfileRequest; exact frameStep_settles s _ _

theorem execProfileSegment_settles : Settles s (execProfileSegment s) := by
  unfold execProfileSegment; exact frameStep_settles s _ _

theorem execChainInActive_settles : Settles s (execChainInActive s) := by
  unfold execChainInActive; exact done_settles s _

theorem execSupplyAtRunLevel_settles (inputs : StartInputs) : Settles s (execSupplyAtRunLevel inputs s) := by
  unfold execSupplyAtRunLevel
  split
  · exact done_settles s _
  · exact done_settles s _
  · split
    · exact noEvent_settles s
    · exact done_settles s _
  · exact noEvent_settles s
  · exact noEvent_settles s

theorem execSupplyBelowHoldLevel_settles : Settles s (execSupplyBelowHoldLevel s) := by
  unfold execSupplyBelowHoldLevel; exact whenever_settles s _ _

theorem execSupplyBelowRetentionLimit_settles : Settles s (execSupplyBelowRetentionLimit s) := by
  unfold execSupplyBelowRetentionLimit; exact whenever_settles s _ _

theorem execResetAsserted_settles : Settles s (execResetAsserted s) := by
  unfold execResetAsserted
  cases s.supply.state <;> exact done_settles s _

theorem execResetReleased_settles (atRunLevel : Bool) (inputs : StartInputs) : Settles s (execResetReleased atRunLevel inputs s) := by
  unfold execResetReleased; exact done_settles s _

theorem execOpeningDelimiter_settles (bits : List Bool) : Settles s (execOpeningDelimiter bits s) := by
  unfold execOpeningDelimiter; exact lineStep_settles s _ _ _

theorem execChainInInactive_settles : Settles s (execChainInInactive s) := by
  unfold execChainInInactive; exact done_settles s _

/-- Every command has a next state: the state itself, or a settled one. -/
theorem exec_settles (c : Instr) : Settles s (exec c s) := by
  cases c with
  | chargePulse dir => exact execChargePulse_settles s dir
  | windowClose vsense => exact execWindowClose_settles s vsense
  | secondsCounterIncrement tsense => exact execSecondsCounterIncrement_settles s tsense
  | restTimerExpiry => exact execRestTimerExpiry_settles s
  | removalRequest => exact execRemovalRequest_settles s
  | longRestExpiry => exact execLongRestExpiry_settles s
  | peerAgeRemoval number => exact execPeerAgeRemoval_settles s number
  | declineMarkExpiry number => exact execDeclineMarkExpiry_settles s number
  | announceTimerExpiry => exact execAnnounceTimerExpiry_settles s
  | proposalTimerExpiry => exact execProposalTimerExpiry_settles s
  | replyTimerExpiry => exact execReplyTimerExpiry_settles s
  | holdTimerExpiry => exact execHoldTimerExpiry_settles s
  | partnerTimerExpiry => exact execPartnerTimerExpiry_settles s
  | quietTimerExpiry => exact execQuietTimerExpiry_settles s
  | requestTimerExpiry => exact execRequestTimerExpiry_settles s
  | holdoffExpiry => exact execHoldoffExpiry_settles s
  | attemptBegin bits => exact execAttemptBegin_settles s bits
  | arbitrationLoss bits => exact execArbitrationLoss_settles s bits
  | transmitLineFault bits => exact execTransmitLineFault_settles s bits
  | attemptComplete bits => exact execAttemptComplete_settles s bits
  | stuckDominantLine bits => exact execStuckDominantLine_settles s bits
  | busReset bits => exact execBusReset_settles s bits
  | receiveAbort bits => exact execReceiveAbort_settles s bits
  | frameReceived bits => exact execFrameReceived_settles s bits
  | unknownKind => exact execUnknownKind_settles s
  | enum => exact execEnum_settles s
  | announce => exact execAnnounce_settles s
  | propose => exact execPropose_settles s
  | accept => exact execAccept_settles s
  | decline => exact execDecline_settles s
  | confirm => exact execConfirm_settles s
  | release => exact execRelease_settles s
  | query => exact execQuery_settles s
  | grade => exact execGrade_settles s
  | campaignStart => exact execCampaignStart_settles s
  | campaignFreeze => exact execCampaignFreeze_settles s
  | campaignRegrade => exact execCampaignRegrade_settles s
  | campaignReleaseAll => exact execCampaignReleaseAll_settles s
  | campaignUnknownAction => exact execCampaignUnknownAction_settles s
  | profileRequest => exact execProfileRequest_settles s
  | profileSegment => exact execProfileSegment_settles s
  | chainInActive => exact execChainInActive_settles s
  | supplyAtRunLevel inputs => exact execSupplyAtRunLevel_settles s inputs
  | supplyBelowHoldLevel => exact execSupplyBelowHoldLevel_settles s
  | supplyBelowRetentionLimit => exact execSupplyBelowRetentionLimit_settles s
  | resetAsserted => exact execResetAsserted_settles s
  | resetReleased atRunLevel inputs => exact execResetReleased_settles s atRunLevel inputs
  | openingDelimiter bits => exact execOpeningDelimiter_settles s bits
  | chainInInactive => exact execChainInInactive_settles s

end Sys2Proof.Machine
end

