-- ==== Sys2Proof/Laws/PerInstr.lean ====
section
/-! SUPPORT. The family of lemmas made per command: what well-formedness says of the operands. -/

namespace Sys2Proof.Laws

/-- The node number a command names. -/
def Operands.numberOf (i : Instr) : Option Nat :=
  match i with
  | .chargePulse _ => none
  | .windowClose _ => none
  | .secondsCounterIncrement _ => none
  | .restTimerExpiry => none
  | .removalRequest => none
  | .longRestExpiry => none
  | .peerAgeRemoval n => some n
  | .declineMarkExpiry n => some n
  | .announceTimerExpiry => none
  | .proposalTimerExpiry => none
  | .replyTimerExpiry => none
  | .holdTimerExpiry => none
  | .partnerTimerExpiry => none
  | .quietTimerExpiry => none
  | .requestTimerExpiry => none
  | .holdoffExpiry => none
  | .attemptBegin _ => none
  | .arbitrationLoss _ => none
  | .transmitLineFault _ => none
  | .attemptComplete _ => none
  | .stuckDominantLine _ => none
  | .busReset _ => none
  | .receiveAbort _ => none
  | .frameReceived _ => none
  | .unknownKind => none
  | .enum => none
  | .announce => none
  | .propose => none
  | .accept => none
  | .decline => none
  | .confirm => none
  | .release => none
  | .query => none
  | .grade => none
  | .campaignStart => none
  | .campaignFreeze => none
  | .campaignRegrade => none
  | .campaignReleaseAll => none
  | .campaignUnknownAction => none
  | .profileRequest => none
  | .profileSegment => none
  | .chainInActive => none
  | .supplyAtRunLevel _ => none
  | .supplyBelowHoldLevel => none
  | .supplyBelowRetentionLimit => none
  | .resetAsserted => none
  | .resetReleased _ _ => none
  | .openingDelimiter _ => none
  | .chainInInactive => none

/-- The inputs a command brings to a start. -/
def Operands.inputsOf (i : Instr) : Option StartInputs :=
  match i with
  | .chargePulse _ => none
  | .windowClose _ => none
  | .secondsCounterIncrement _ => none
  | .restTimerExpiry => none
  | .removalRequest => none
  | .longRestExpiry => none
  | .peerAgeRemoval _ => none
  | .declineMarkExpiry _ => none
  | .announceTimerExpiry => none
  | .proposalTimerExpiry => none
  | .replyTimerExpiry => none
  | .holdTimerExpiry => none
  | .partnerTimerExpiry => none
  | .quietTimerExpiry => none
  | .requestTimerExpiry => none
  | .holdoffExpiry => none
  | .attemptBegin _ => none
  | .arbitrationLoss _ => none
  | .transmitLineFault _ => none
  | .attemptComplete _ => none
  | .stuckDominantLine _ => none
  | .busReset _ => none
  | .receiveAbort _ => none
  | .frameReceived _ => none
  | .unknownKind => none
  | .enum => none
  | .announce => none
  | .propose => none
  | .accept => none
  | .decline => none
  | .confirm => none
  | .release => none
  | .query => none
  | .grade => none
  | .campaignStart => none
  | .campaignFreeze => none
  | .campaignRegrade => none
  | .campaignReleaseAll => none
  | .campaignUnknownAction => none
  | .profileRequest => none
  | .profileSegment => none
  | .chainInActive => none
  | .supplyAtRunLevel x => some x
  | .supplyBelowHoldLevel => none
  | .supplyBelowRetentionLimit => none
  | .resetAsserted => none
  | .resetReleased _ x => some x
  | .openingDelimiter _ => none
  | .chainInInactive => none

/-- A command is well formed exactly when the node number it names lies in 1 to 239 (R122), the memory it brings has 131 bytes
(R168), and the contents a dip leaves keep their widths (R187). -/
def Operands.Statement (i : Instr) : Prop :=
  i.wf = true ↔
    (∀ n, Operands.numberOf i = some n → 1 ≤ n ∧ n ≤ 239)
      ∧ (∀ x, Operands.inputsOf i = some x → x.memory.length = 131 ∧ ∀ d, x.upset = some d → d.inWidths = true)

theorem Operands.wf_inputs (x : StartInputs) :
    x.wf = true ↔ x.memory.length = 131 ∧ ∀ d, x.upset = some d → d.inWidths = true := by
  cases h : x.upset <;> simp [StartInputs.wf, StartInputs.memoryOk, StartInputs.upsetOk, h]

/-- A command that names no number and brings no inputs meets the statement. -/
theorem Operands.noOperand :
    true = true ↔
      (∀ n, (none : Option Nat) = some n → 1 ≤ n ∧ n ≤ 239)
        ∧ (∀ x, (none : Option StartInputs) = some x →
            x.memory.length = 131 ∧ ∀ d, x.upset = some d → d.inWidths = true) := by
  simp

theorem Operands.chargePulse (dir : Direction) : Operands.Statement (.chargePulse dir) :=
  Operands.noOperand

theorem Operands.windowClose (vsense : Int) : Operands.Statement (.windowClose vsense) :=
  Operands.noOperand

theorem Operands.secondsCounterIncrement (tsense : Int) : Operands.Statement (.secondsCounterIncrement tsense) :=
  Operands.noOperand

theorem Operands.restTimerExpiry : Operands.Statement (.restTimerExpiry) :=
  Operands.noOperand

theorem Operands.removalRequest : Operands.Statement (.removalRequest) :=
  Operands.noOperand

theorem Operands.longRestExpiry : Operands.Statement (.longRestExpiry) :=
  Operands.noOperand

theorem Operands.peerAgeRemoval (number : Nat) : Operands.Statement (.peerAgeRemoval number) := by
  simp [Operands.Statement, Instr.wf, nodeNumberOk, Operands.numberOf, Operands.inputsOf]

theorem Operands.declineMarkExpiry (number : Nat) : Operands.Statement (.declineMarkExpiry number) := by
  simp [Operands.Statement, Instr.wf, nodeNumberOk, Operands.numberOf, Operands.inputsOf]

theorem Operands.announceTimerExpiry : Operands.Statement (.announceTimerExpiry) :=
  Operands.noOperand

theorem Operands.proposalTimerExpiry : Operands.Statement (.proposalTimerExpiry) :=
  Operands.noOperand

theorem Operands.replyTimerExpiry : Operands.Statement (.replyTimerExpiry) :=
  Operands.noOperand

theorem Operands.holdTimerExpiry : Operands.Statement (.holdTimerExpiry) :=
  Operands.noOperand

theorem Operands.partnerTimerExpiry : Operands.Statement (.partnerTimerExpiry) :=
  Operands.noOperand

theorem Operands.quietTimerExpiry : Operands.Statement (.quietTimerExpiry) :=
  Operands.noOperand

theorem Operands.requestTimerExpiry : Operands.Statement (.requestTimerExpiry) :=
  Operands.noOperand

theorem Operands.holdoffExpiry : Operands.Statement (.holdoffExpiry) :=
  Operands.noOperand

theorem Operands.attemptBegin (bits : List Bool) : Operands.Statement (.attemptBegin bits) :=
  Operands.noOperand

theorem Operands.arbitrationLoss (bits : List Bool) : Operands.Statement (.arbitrationLoss bits) :=
  Operands.noOperand

theorem Operands.transmitLineFault (bits : List Bool) : Operands.Statement (.transmitLineFault bits) :=
  Operands.noOperand

theorem Operands.attemptComplete (bits : List Bool) : Operands.Statement (.attemptComplete bits) :=
  Operands.noOperand

theorem Operands.stuckDominantLine (bits : List Bool) : Operands.Statement (.stuckDominantLine bits) :=
  Operands.noOperand

theorem Operands.busReset (bits : List Bool) : Operands.Statement (.busReset bits) :=
  Operands.noOperand

theorem Operands.receiveAbort (bits : List Bool) : Operands.Statement (.receiveAbort bits) :=
  Operands.noOperand

theorem Operands.frameReceived (bits : List Bool) : Operands.Statement (.frameReceived bits) :=
  Operands.noOperand

theorem Operands.unknownKind : Operands.Statement (.unknownKind) :=
  Operands.noOperand

theorem Operands.enum : Operands.Statement (.enum) :=
  Operands.noOperand

theorem Operands.announce : Operands.Statement (.announce) :=
  Operands.noOperand

theorem Operands.propose : Operands.Statement (.propose) :=
  Operands.noOperand

theorem Operands.accept : Operands.Statement (.accept) :=
  Operands.noOperand

theorem Operands.decline : Operands.Statement (.decline) :=
  Operands.noOperand

theorem Operands.confirm : Operands.Statement (.confirm) :=
  Operands.noOperand

theorem Operands.release : Operands.Statement (.release) :=
  Operands.noOperand

theorem Operands.query : Operands.Statement (.query) :=
  Operands.noOperand

theorem Operands.grade : Operands.Statement (.grade) :=
  Operands.noOperand

theorem Operands.campaignStart : Operands.Statement (.campaignStart) :=
  Operands.noOperand

theorem Operands.campaignFreeze : Operands.Statement (.campaignFreeze) :=
  Operands.noOperand

theorem Operands.campaignRegrade : Operands.Statement (.campaignRegrade) :=
  Operands.noOperand

theorem Operands.campaignReleaseAll : Operands.Statement (.campaignReleaseAll) :=
  Operands.noOperand

theorem Operands.campaignUnknownAction : Operands.Statement (.campaignUnknownAction) :=
  Operands.noOperand

theorem Operands.profileRequest : Operands.Statement (.profileRequest) :=
  Operands.noOperand

theorem Operands.profileSegment : Operands.Statement (.profileSegment) :=
  Operands.noOperand

theorem Operands.chainInActive : Operands.Statement (.chainInActive) :=
  Operands.noOperand

theorem Operands.supplyAtRunLevel (inputs : StartInputs) : Operands.Statement (.supplyAtRunLevel inputs) := by
  simp [Operands.Statement, Instr.wf, Operands.wf_inputs, Operands.numberOf, Operands.inputsOf]

theorem Operands.supplyBelowHoldLevel : Operands.Statement (.supplyBelowHoldLevel) :=
  Operands.noOperand

theorem Operands.supplyBelowRetentionLimit : Operands.Statement (.supplyBelowRetentionLimit) :=
  Operands.noOperand

theorem Operands.resetAsserted : Operands.Statement (.resetAsserted) :=
  Operands.noOperand

theorem Operands.resetReleased (atRunLevel : Bool) (inputs : StartInputs) : Operands.Statement (.resetReleased atRunLevel inputs) := by
  simp [Operands.Statement, Instr.wf, Operands.wf_inputs, Operands.numberOf, Operands.inputsOf]

theorem Operands.openingDelimiter (bits : List Bool) : Operands.Statement (.openingDelimiter bits) :=
  Operands.noOperand

theorem Operands.chainInInactive : Operands.Statement (.chainInInactive) :=
  Operands.noOperand

end Sys2Proof.Laws
end

