-- ==== Sys2Proof/Tests/Slice0.lean ====
section
/-! SUPPORT. The model's own tests: an ill-formed command for each check of WellFormed, the manual's worked figures, one step of
a few commands, and for each statement with hypotheses a state and operands that meet them. -/

namespace Sys2Proof.Tests

set_option Elab.async false

open Sys2Proof.Machine

/-! ## WellFormed refuses what it checks -/

def inputs : StartInputs := ⟨52000, 20300, false, true, List.replicate 131 0#8, none⟩
def goodDomain : Domain := ⟨coldRetained, 5, 5, 0#16, 0#16, 0#16⟩

theorem test_wf_number_zero : (Instr.peerAgeRemoval 0).wf = false := by decide +kernel
theorem test_wf_number_240 : (Instr.declineMarkExpiry 240).wf = false := by decide +kernel
theorem test_wf_numbers_ok : (Instr.peerAgeRemoval 1).wf = true ∧ (Instr.declineMarkExpiry 239).wf = true := by decide +kernel
theorem test_wf_memory_short : (Instr.supplyAtRunLevel { inputs with memory := [] }).wf = false := by decide +kernel
theorem test_wf_memory_long :
    (Instr.resetReleased true { inputs with memory := List.replicate 132 0#8 }).wf = false := by decide +kernel
theorem test_wf_upset_seconds :
    (Instr.supplyAtRunLevel { inputs with upset := some { goodDomain with seconds := 4294967296 } }).wf = false := by decide +kernel
theorem test_wf_upset_copy :
    (Instr.supplyAtRunLevel { inputs with upset := some { goodDomain with secondsCopy := 4294967296 } }).wf = false := by
  decide +kernel
theorem test_wf_upset_epoch :
    (Instr.supplyAtRunLevel { inputs with upset := some { goodDomain with
      ret := { coldRetained with grade := { emptyGrade with epoch := 256 } } } }).wf = false := by decide +kernel
theorem test_wf_upset_count :
    (Instr.supplyAtRunLevel { inputs with upset := some { goodDomain with
      ret := { coldRetained with grade := { emptyGrade with estimateCount := 256 } } } }).wf = false := by decide +kernel
theorem test_wf_upset_points :
    (Instr.supplyAtRunLevel { inputs with upset := some { goodDomain with
      ret := { coldRetained with points := List.replicate 9 ⟨0, 0, 0, 0, 0, 0⟩ } } }).wf = false := by decide +kernel
theorem test_wf_upset_charge :
    (Instr.supplyAtRunLevel { inputs with upset := some { goodDomain with
      ret := { coldRetained with charge := 8388608 } } }).wf = false := by decide +kernel
theorem test_wf_upset_campaign :
    (Instr.supplyAtRunLevel { inputs with upset := some { goodDomain with
      ret := { coldRetained with campaign := some 256 } } }).wf = false := by decide +kernel
theorem test_wf_upset_ok : (Instr.supplyAtRunLevel { inputs with upset := some goodDomain }).wf = true := by decide +kernel

/-! ## The manual's worked figures -/

/-- R197: the check of the nine bytes 31H to 39H. -/
theorem test_check : crc [0x31#8, 0x32#8, 0x33#8, 0x34#8, 0x35#8, 0x36#8, 0x37#8, 0x38#8, 0x39#8] = 0xAEE7#16 := by decide +kernel

/-- R8, Steady discharge, Rounding, Halves, Saturation. -/
theorem test_current :
    windowCurrent { Config.defaultProfile with calibration := 7200, gateCode := 3 } 1 2234 = -111650
      ∧ windowCurrent { Config.defaultProfile with calibration := 7213, gateCode := 4 } 1000 0 = 24955
      ∧ windowCurrent { Config.defaultProfile with calibration := 256, gateCode := 0 } 1 0 = 14063
      ∧ windowCurrent { Config.defaultProfile with calibration := 256, gateCode := 0 } 0 1 = -14063
      ∧ windowCurrent { Config.defaultProfile with calibration := 256, gateCode := 0 } 143 0 = 2000000 := by decide +kernel

/-- R46: the table of quotients. -/
theorem test_resistance :
    resistanceOf 138 8000 = 17250 ∧ resistanceOf 7 3000 = 2333 ∧ resistanceOf 1 400000 = 3
      ∧ resistanceOf 5000 250 = 16777215 := by decide +kernel

/-- R47 and the example of a valid pulse: 31 °C, α = 8; the clamp's two ends. -/
theorem test_normalised :
    normalised 8 17250 31 = 18078 ∧ temperatureFactor 30 125 = 4000 ∧ temperatureFactor 30 (-40) = 250 := by decide +kernel

/-- R56: lookups through the default table. -/
theorem test_lookup :
    [2950, 3000, 3400, 3405, 3580, 3691].map (socLookup Config.defaultProfile.ocv) = [0, 0, 100, 107, 390, 612] := by decide +kernel

/-- R60, R63, R65: the estimate of 26,886 mAh over 420 ‰, its SOH, and the ratio of 18,078 µΩ. -/
theorem test_estimate :
    rawEstimate 26886 420 = 64014 ∧ sohOf Config.defaultProfile 64014 = 681
      ∧ ratioOf Config.defaultProfile 18078 = 1506 ∧ sohOf { Config.defaultProfile with ratedCapacity := 60000 } 64014 = 1000 := by
  decide +kernel

/-- R126: the example's scores of nodes 7, 21, 44 and 3. -/
theorem test_score :
    let own : GradeRecord := { emptyGrade with capacity := some 63629, r25c := some 18078, sd := some 14 }
    scoreOf Config.defaultProfile own (some 63000) (some 18500) (some 20) = some 86
      ∧ scoreOf Config.defaultProfile own (some 61900) (some 19400) none = some 244
      ∧ scoreOf Config.defaultProfile own (some 64500) (some 17900) (some 12) = some 72
      ∧ scoreOf Config.defaultProfile own none (some 18200) none = none := by decide +kernel

/-- R80: the start of an ENUM's content, FFH 00H 01H, goes out as 27 bits with three stuff bits. -/
theorem test_stuffing :
    stuffFrom 0 false (bytesBits [0xFF#8, 0x00#8, 0x01#8]) =
      [true, true, true, true, true, true, false, true, true] ++ [false, false, false, false, false, false, true, false, false]
        ++ [false, false, false, false, true, false, false, false, true] := by decide +kernel

/-- R110, R142: node 136 announces first at 32 ms; nodes 8, 200 and 239 propose first at 424, 600 and 2,667 ms. -/
theorem test_offsets :
    announceOffset Config.defaultProfile 136 = 32
      ∧ [8, 200, 239].map (proposalOffset Config.defaultProfile) = [424, 600, 2667] := by decide +kernel

/-- R198: the record of the default profile has 99 bytes, 5AH, 01H, 8, and N = 7200 first. -/
theorem test_record :
    (encodeRecord Config.defaultProfile).length = 99
      ∧ (recordBody Config.defaultProfile).take 5 = [0x5A#8, 0x01#8, 0x08#8, 0x1C#8, 0x20#8] := by decide +kernel

/-- R6, R13: the gate codes and the tolerance codes. -/
theorem test_codes :
    [0, 1, 2, 3, 4, 5, 6].map windowMs = [1, 2, 5, 10, 20, 50, 100]
      ∧ [0, 1, 2, 3].map tolerancePulses = [0, 2, 8, 32] := by decide +kernel

/-! ## The built-in default's record

The built-in default's record, written out (R169, R198), so that its check is evaluated in parts. -/

def part0 : List Byte :=
  [0x5A#8, 0x01#8, 0x08#8, 0x1C#8, 0x20#8, 0x73#8, 0x08#8, 0x00#8, 0x0E#8, 0x01#8,
    0xF4#8, 0x1E#8, 0x0E#8, 0x05#8, 0x28#8, 0x18#8, 0x00#8, 0x2D#8, 0x07#8, 0xD0#8]
def part1 : List Byte :=
  [0x1F#8, 0x40#8, 0xC8#8, 0x00#8, 0x64#8, 0x13#8, 0x01#8, 0x6F#8, 0x30#8, 0x00#8,
    0x2E#8, 0xE0#8, 0x03#8, 0x20#8, 0x02#8, 0x8A#8, 0x01#8, 0xF4#8, 0x05#8, 0x14#8]
def part2 : List Byte :=
  [0x06#8, 0x40#8, 0x07#8, 0xD0#8, 0x00#8, 0x0A#8, 0x00#8, 0x1E#8, 0x00#8, 0x3C#8,
    0x14#8, 0x05#8, 0x42#8, 0x01#8, 0x90#8, 0x0C#8, 0x0A#8, 0x0A#8, 0x0F#8, 0xA1#8]
def part3 : List Byte :=
  [0xF4#8, 0x00#8, 0x32#8, 0x06#8, 0x00#8, 0x0B#8, 0xB8#8, 0x00#8, 0x00#8, 0x0D#8,
    0x48#8, 0x00#8, 0x64#8, 0x0D#8, 0xDE#8, 0x01#8, 0x2C#8, 0x0E#8, 0x10#8, 0x01#8]
def part4 : List Byte :=
  [0xC2#8, 0x0E#8, 0x42#8, 0x02#8, 0x26#8, 0x0E#8, 0xA6#8, 0x02#8, 0xBC#8, 0x0F#8,
    0x3C#8, 0x03#8, 0x52#8, 0x10#8, 0x04#8, 0x03#8, 0xE8#8]

/-- The 99 bytes of the default's record. -/
def defaultBytes : List Byte :=
  part0 ++ part1 ++ part2 ++ part3 ++ part4 ++ [0x7D#8, 0x66#8]

theorem check_part0 : crcBytes 0xFFFF#16 part0 = 0x2181#16 := by decide +kernel
theorem check_part1 : crcBytes 0x2181#16 part1 = 0xEFC7#16 := by decide +kernel
theorem check_part2 : crcBytes 0xEFC7#16 part2 = 0x5C91#16 := by decide +kernel
theorem check_part3 : crcBytes 0x5C91#16 part3 = 0x30E4#16 := by decide +kernel
theorem check_part4 : crcBytes 0x30E4#16 part4 = 0x7D66#16 := by decide +kernel

theorem crcBytes_append (r : Word16) (a b : List Byte) : crcBytes r (a ++ b) = crcBytes (crcBytes r a) b := by
  simp [crcBytes]

theorem default_body : recordBody Config.defaultProfile = part0 ++ part1 ++ part2 ++ part3 ++ part4 := by decide +kernel

theorem default_check : crc (recordBody Config.defaultProfile) = 0x7D66#16 := by
  rw [default_body, crc]
  simp only [crcBytes_append, check_part0, check_part1, check_part2, check_part3, check_part4]

/-- R169, R198: the record of the default profile is these bytes. -/
theorem test_default_record : encodeRecord Config.defaultProfile = defaultBytes := by
  rw [encodeRecord, checkBytes, default_check, default_body]; decide +kernel

theorem default_bytes_check : crc defaultBytes = 0#16 := by
  rw [crc, defaultBytes]
  simp only [crcBytes_append, check_part0, check_part1, check_part2, check_part3, check_part4]
  decide +kernel

/-- R168: bytes that begin with these are judged valid, whatever the node reads after them. -/
theorem parse_default (b : List Byte) (h0 : u8 b 0 = 0x5A) (h1 : u8 b 1 = 1) (h2 : u8 b 2 = 8)
    (ht : b.take 99 = defaultBytes) (hl : 99 ≤ b.length) (h6 : u8 b 6 / 32 % 2 = 0)
    (hv : profileValid (readProfile b) = true) :
    parseRecord b = some ⟨readProfile b, BitVec.ofNat 16 (u16 b 97)⟩ := by
  unfold parseRecord
  rw [if_neg (by simp [h0]), if_neg (by simp [h1]), if_neg (by simp [h2])]
  simp only [h2, recordLength, Nat.reduceMul, Nat.reduceAdd, Nat.reduceSub]
  rw [if_neg (by omega), ht, default_bytes_check, if_neg (by simp), if_neg (by simp [h6]), if_pos hv]

/-- R168, R169: the default's bytes, alone and with the rest of the 131 read, are a valid record of the default profile. -/
theorem test_default_parses :
    parseRecord defaultBytes = some ⟨Config.defaultProfile, 0x7D66#16⟩
      ∧ parseRecord (defaultBytes ++ List.replicate 32 0#8) = some ⟨Config.defaultProfile, 0x7D66#16⟩ := by
  constructor
  · rw [parse_default _ (by decide +kernel) (by decide +kernel) (by decide +kernel) (by decide +kernel) (by decide +kernel)
      (by decide +kernel) (by decide +kernel)]
    decide +kernel
  · rw [parse_default _ (by decide +kernel) (by decide +kernel) (by decide +kernel) (by decide +kernel) (by decide +kernel)
      (by decide +kernel) (by decide +kernel)]
    decide +kernel

/-! ## A node at work, and states near it -/

def record0 : GradeRecord :=
  ⟨some 63629, 3, some 420, some 677, some 17250, some 18078, some 31, some 1506, some 14, some .b, 7⟩

/-- An entry scored 86 against `record0`. -/
def peer (n : Nat) : PeerEntry :=
  ⟨n, 0, 14, some .b, some 63000, some 18500, some 20, .free, some 52300, 8, false, some 86, 990, none⟩

def sample0 : SampleRecord := ⟨999, 5, 0, 250, 52000, 3714, false⟩

/-- Node 9 in RUN under the default profile, NUMBERED and UP, with the peers 3 and 12. -/
def run : State := { State.reset with
  supply := ⟨.run, .cold⟩
  dom := ⟨{ coldRetained with
      activity := .active, grade := record0, bondState := .free, profile := some Config.defaultProfile
      source := some .builtIn, inForce := true, number := some ⟨9, .fixed⟩, campaign := some 40 },
    1000, 1000, Config.checkWord1, Config.checkWord2, 0#16⟩
  fe := ⟨some 10, 0, 0, some sample0, some ⟨52000, 3714⟩, some 20, false, false⟩
  link := { stoppedLink with mode := .up, receiver := { freshReceiver .hunt with recessiveRun := 11 } }
  fp := ⟨none, some 5000⟩
  table := ⟨[peer 3, peer 12], none⟩
  bond := { stoppedBond with proposalTimer := some 10000 }
  comm := { stoppedCommissioning with
    state := .ready, numbering := some .numbered, method := some .fixed, held := some 9 } }

/-- A frame is the oldest of the FIFO (its check bytes are not looked at any more). -/
def incoming (f : Frame) (s : State) : State := s.setLink { s.link with fifo := [frameBody f ++ [0#8, 0#8]] }

def frozen (s : State) : State := s.setRet { s.ret with freeze := true }
def unloaded (s : State) : State := s.setRet { s.ret with inForce := false }
def sharer : State := run.setRet { run.ret with
  source := some .externalMemory, profile := some { Config.defaultProfile with sharing := true } }
def withRest (r : RestDetector) (s : State) : State := s.setRest r
def numbering (n : NumberingState) (m : NumberMethod) (claim : Option Nat) (s : State) : State :=
  s.setComm { s.comm with state := .numbering, numbering := some n, method := some m, claim := claim }
def bonded12 : State := (setBondState .bonded (some 12) run).setBond { run.bond with partnerTimer := some 30, bondClass := some .b }
def proposing12 : State :=
  (setBondState .proposing (some 12) run).setBond { run.bond with replyTimer := some 250, proposeTaken := true }
def held12 : State := (setBondState .held (some 12) run).setBond { run.bond with holdTimer := some 500 }
def enum9 : Frame := ⟨0xFF#8, 9#8, 0x01#8, [9#8, 0x01#8]⟩
def propose9 : Frame := ⟨12#8, 9#8, 0x03#8, [0#8, 86#8, 7#8]⟩
def announceOf (src bond partner cls : Byte) : Frame :=
  ⟨0xFF#8, src, 0x02#8, [0#8, 14#8, cls, 0xE0#8, bond, partner] ++ List.replicate 14 0#8⟩

/-- Every step has a next state. -/
theorem step_completes (s : State) : ∃ t, step s = .next t := by
  unfold step
  split
  · rename_i c rest _
    rcases exec_settles (s.setPending rest) c with h | ⟨x, h⟩
    · exact ⟨_, h⟩
    · exact ⟨_, h⟩
  · exact ⟨s, rfl⟩

/-! ## One step of a few commands, from the manual's examples -/

def after (c : Instr) (s : State) : State :=
  match exec c s with
  | .next t => t
  | .fault _ => s
  | .refused _ => s

/-- R2, the divider's example: N = 7213, residue +7,212 and 41,000 mAh; a CHG pulse delivers the quantum. -/
theorem test_charge_pulse :
    let s := run.setRet { run.ret with
      residue := 7212, charge := 41000, profile := some { Config.defaultProfile with calibration := 7213 } }
    (after (.chargePulse .chg) s).ret.residue = 0 ∧ (after (.chargePulse .chg) s).ret.charge = 41001
      ∧ (after (.chargePulse .dsg) s).ret.residue = 7211 := by decide +kernel

/-- R43, R44 and the example of a valid pulse: the return close gives R, R25C and the time. -/
theorem test_window_close_return :
    let s := { run with pulse := ⟨.returnCheck, 51, false, some ⟨52400, -120⟩, some ⟨52262, -8120, 31⟩⟩ }
    (after (.windowClose 52395) s).grade.resistance = some 17250
      ∧ (after (.windowClose 52395) s).grade.r25c = some 18078
      ∧ (after (.windowClose 52395) s).grade.ratio = some 1506 ∧ (after (.windowClose 52395) s).grade.epoch = 7
      ∧ (after (.windowClose 52395) s).ret.lastPulse = some 1000 ∧ (after (.windowClose 52395) s).pulse.state = .idle := by
  decide +kernel

/-- R54, R64, R127: a pulse 20 mV deeper changes the record, so the epoch rises and the table is scored anew. -/
theorem test_pulse_raises_epoch :
    let s := { run with pulse := ⟨.returnCheck, 51, false, some ⟨52400, -120⟩, some ⟨52242, -8120, 31⟩⟩ }
    (after (.windowClose 52395) s).grade.resistance = some 19750 ∧ (after (.windowClose 52395) s).grade.epoch = 8
      ∧ (after (.windowClose 52395) s).table.entries.map (fun e => e.number) = [3, 12]
      ∧ (after (.windowClose 52395) s).table.entries.all (fun e => e.score != some 86) = true := by decide +kernel

/-- R189: at its last value the seconds counter stops; a fractional TSENSE is rounded half up (R11). -/
theorem test_second :
    (after (.secondsCounterIncrement 20500) run).seconds = 1001
      ∧ (after (.secondsCounterIncrement 20500) run).fe.lastTemperature = some 21
      ∧ (after (.secondsCounterIncrement 20500)
          (run.setDom { run.dom with seconds := 4294967295 })).seconds = 4294967295 := by decide +kernel

/-- The two-node handshake of the bonding chapter, at the proposer and at the held node. -/
theorem test_proposal :
    let t := after .proposalTimerExpiry (run.setTable ⟨[peer 12], none⟩)
    t.ret.bondState = .proposing ∧ t.ret.engaged = some 12 ∧ t.table.pin = some 12 ∧ t.bond.replyTimer = some 250
      ∧ t.link.queue = [⟨12#8, 9#8, 0x03#8, [0x00#8, 0x56#8, 0x07#8]⟩] := by decide +kernel

/-- R143: a PROPOSE that a full queue drops is not there to withdraw, and an older one to the same target stays; one the queue
took is withdrawn, and the older one stays. -/
theorem test_withdraw_own :
    let fresh := run.setTable ⟨[peer 12], none⟩
    let waits (q : List Frame) : State := fresh.setLink { run.link with queue := q, transmitter := .wait }
    let tried (q : List Frame) : State := after .proposalTimerExpiry (waits q)
    (tried [propose9, enum9, enum9, enum9]).bond.proposeTaken = false
      ∧ (after .replyTimerExpiry (tried [propose9, enum9, enum9, enum9])).link.queue = [propose9, enum9, enum9, enum9]
      ∧ (tried [propose9, enum9]).link.queue = [propose9, enum9, propose9]
      ∧ (after .replyTimerExpiry (tried [propose9, enum9])).link.queue = [propose9, enum9] := by decide +kernel

theorem test_accept :
    let t := after .accept (incoming ⟨9#8, 12#8, 0x04#8, [8#8]⟩ proposing12)
    t.ret.bondState = .bonded ∧ t.bond.partnerTimer = some 30 ∧ t.bond.replyTimer = none
      ∧ t.link.queue = [⟨12#8, 9#8, 0x06#8, [0x07#8]⟩] := by decide +kernel

/-- R147: an ACCEPT that comes too late is answered with RELEASE LATE. -/
theorem test_accept_late :
    (after .accept (incoming ⟨9#8, 12#8, 0x04#8, [8#8]⟩ run)).link.queue = [⟨12#8, 9#8, 0x07#8, [0x01#8]⟩] := by
  decide +kernel

/-- R145: the reason codes of the states, in the table's order. -/
theorem test_propose_declined :
    let f : Frame := ⟨9#8, 3#8, 0x03#8, [0#8, 86#8, 9#8]⟩
    (after .propose (incoming f bonded12)).link.queue = [⟨3#8, 9#8, 0x05#8, [0x01#8]⟩]
      ∧ (after .propose (incoming f held12)).link.queue = [⟨3#8, 9#8, 0x05#8, [0x02#8]⟩]
      ∧ (after .propose (incoming f run)).link.queue = [⟨3#8, 9#8, 0x05#8, [0x08#8]⟩] := by decide +kernel

/-- The campaign example: 41 START repeated, then 42 with action code 9, then 42 FREEZE. -/
theorem test_campaign :
    let s := run.setRet { run.ret with activity := .dormant }
    let f (a n : Byte) : Frame := ⟨0xFF#8, 240#8, 0x0A#8, [a, n]⟩
    (after .campaignStart (incoming (f 1#8 41#8) s)).ret.activity = .active
      ∧ (after .campaignUnknownAction (incoming (f 9#8 42#8) s)).ret.campaign = some 42
      ∧ (after .campaignFreeze (incoming (f 2#8 40#8) s)).ret.freeze = false
      ∧ (after .campaignFreeze (incoming (f 2#8 43#8) s)).ret.freeze = true := by decide +kernel

/-- R115, R195 and the example's encoding: class C is 03H, SOH 681 ‰ is 02A9H, C 64,014 mAh is 00FA0EH. -/
theorem test_grade_payload :
    let s := (run.setRet { run.ret with grade := { record0 with
        capacity := some 64014, soh := some 681, estimateCount := 1, gradeClass := some .c }, coldMarker := false }).setFe
      { run.fe with integrityFlag := true }
    (gradePayload s).take 10 = [0#8, 14#8, 0x03#8, 0xF0#8, 0x02#8, 0xA9#8, 0x00#8, 0xFA#8, 0x0E#8, 0x01#8] := by
  decide +kernel

/-- R99, R101: an offer in MUTED is refused, and in LISTEN all but ENUM and a PROFILE request. -/
theorem test_offer_modes :
    (offerFrame { run.link with mode := .muted } enum9).queue = []
      ∧ (offerFrame { run.link with mode := .listen } propose9).queue = []
      ∧ (offerFrame { run.link with mode := .listen } enum9).queue = [enum9] := by decide +kernel

/-- R178 and the chain example: with 12 as the highest heard the claim is 13, from source 0. -/
theorem test_claim :
    let s := (numbering .quietWait .chained none run).setComm
      { (numbering .quietWait .chained none run).comm with quietTimer := some 50, highest := 12 }
    (after .quietTimerExpiry (s.setLink { s.link with mode := .listen })).link.queue
      = [⟨0xFF#8, 0#8, 0x01#8, [0x0D#8, 0x02#8]⟩] := by decide +kernel

/-- R168, R170: an erased memory is no valid record, and the node FAILED asserts ALERT. -/
theorem test_failed :
    let t := after (.supplyAtRunLevel { inputs with cfg0 := false }) State.reset
    t.comm.state = .failed ∧ t.pins.alert = true ∧ t.comm.memoryCommand = [0x03#8, 0x00#8, 0x00#8] := by decide +kernel

/-- R184 to R186: from OFF the built-in profile starts cold, and a chained node with CHAIN-IN inactive waits. -/
theorem test_power_up :
    let t := after (.supplyAtRunLevel inputs) State.reset
    t.supply.state = .run ∧ t.comm.numbering = some .chainWait ∧ t.ret.coldMarker = true
      ∧ t.fe.lastVoltage = some ⟨52000, 3714⟩ := by decide +kernel

/-! ## For each statement with hypotheses, a state and operands that meet them, clause by clause -/

def busy : State := settle (run.setPending [.chargePulse .chg])

theorem witness_EveryCommandCompletes : inRun State.reset = false ∧ inRun run = true := by decide +kernel

theorem witness_SettleFrame :
    run.supply.state ≠ .off ∧ run.comm.share = none
      ∧ (run.setComm { run.comm with share := some 3 }).comm.share = some 3
      ∧ run.link.mode = .up ∧ run.link.queue.length < 4 ∧ run.link.queue.any isSegment = false
      ∧ 0 + 1 < ((encodeRecord (prof run)).length + 31) / 32 ∧ 3 + 1 = ((encodeRecord (prof run)).length + 31) / 32
      ∧ ¬ ({ run.link with mode := .muted } : Link).mode = .up := by decide +kernel

/-- R173, R196: the start of the third segment of the default record, and the length of the last one. -/
theorem test_segment_frame :
    (segmentFrame run 2).dst = 0xFF#8 ∧ (segmentFrame run 2).src = 9#8 ∧ (segmentFrame run 2).kind = 0x0B#8
      ∧ (segmentFrame run 2).payload.take 8 = [2#8, 4#8, 99#8, 0x00#8, 0x0B#8, 0xB8#8, 0x00#8, 0x00#8]
      ∧ (segmentFrame run 3).payload.length = 6 := by decide +kernel

theorem witness_PinsFollowKept :
    let idle (c : Commissioning) : State := settle ((run.setComm c).setPins { run.pins with chainIn := true })
    let out : State := settle (State.reset.setPending [.chainInActive])
    let drives (n : Nat) : State := settle (run.setLink { run.link with
      transmitter := .sending, attempt := some ⟨propose9, lineBits (frameContent propose9), n, none⟩ })
    (PinsFollow busy ∧ SilentOutsideRun busy ∧ ∃ t, step busy = .next t)
      ∧ (∀ c, PinsFollow (idle c) ∧ SilentOutsideRun (idle c) ∧ step (idle c) = .next (idle c))
      ∧ (PinsFollow out ∧ SilentOutsideRun out ∧ inRun out = false ∧ ∃ t, step out = .next t)
      ∧ ((drives 0).pins.busDominant = true ∧ (drives 1).pins.busDominant = false)
      ∧ (idle { run.comm with state := .awaitingProfile, numbering := none }).pins.chainOut = false
      ∧ (idle { run.comm with state := .failed, numbering := none }).pins.chainOut = true
      ∧ (idle { run.comm with method := some .chained }).pins.chainOut = true
      ∧ (idle { run.comm with state := .numbering, numbering := some .claiming, method := some .chained }).pins.chainOut = false
      ∧ (idle { run.comm with state := .numbering, numbering := some .claiming, method := some .retained }).pins.chainOut = true :=
  ⟨⟨drivePins_settle _, by unfold SilentOutsideRun; decide +kernel, step_completes _⟩,
    fun c => ⟨drivePins_settle _, fun h => absurd h (by simp [inRun]; decide), by unfold step; rw [settle_pending]; rfl⟩,
    ⟨drivePins_settle _, by unfold SilentOutsideRun; decide +kernel, by decide +kernel, step_completes _⟩,
    by decide +kernel, by decide +kernel, by decide +kernel, by decide +kernel, by decide +kernel, by decide +kernel⟩

theorem witness_LinkInLimitsKept : LinkInLimits busy ∧ RunsApart busy ∧ ∃ t, step busy = .next t :=
  ⟨by unfold LinkInLimits; decide +kernel, by unfold RunsApart; decide +kernel, step_completes _⟩

theorem witness_TableOrderedKept : TableOrdered busy ∧ busy.table.entries.length = 2 ∧ ∃ t, step busy = .next t :=
  ⟨by unfold TableOrdered; decide +kernel, by decide +kernel, step_completes _⟩

/-- A state settled outside OFF passes the retention check, when its words and copies are sound. -/
theorem settled_passes (x : State) (h : x.supply.state ≠ .off) (h1 : x.dom.word1 = Config.checkWord1)
    (h2 : x.dom.word2 = Config.checkWord2) (hs : x.dom.seconds = x.dom.secondsCopy) : retentionPasses (settle x).dom = true := by
  have hw := settle_words x
  have hr : (settle x).dom.ret = x.ret := settle_ret x
  simp [retentionPasses, hw.1, hw.2.1, hw.2.2.1, hw.2.2.2, settle_check x h, hr, h1, h2, hs]

theorem witness_DomainSoundKept :
    domainTrusted busy = true ∧ retentionPasses busy.dom = true ∧ DomainSound busy ∧ ∃ t, step busy = .next t :=
  have h := settled_passes (run.setPending [.chargePulse .chg]) (by decide) rfl rfl rfl
  ⟨by decide +kernel, h, fun _ => h, step_completes _⟩

theorem witness_BondTimersKept :
    let s := settle (bonded12.setPending [.partnerTimerExpiry])
    BondTimersOk s ∧ s.bond.partnerTimer.isSome = true ∧ ∃ t, step s = .next t :=
  ⟨by unfold BondTimersOk; decide +kernel, by decide +kernel, step_completes _⟩

theorem witness_RetainedKept :
    let s := settle (bonded12.setPending [.chargePulse .chg, .supplyAtRunLevel { inputs with upset := some goodDomain }])
    PendingPlausible s ∧ domainTrusted s = true ∧ EngagedOk s ∧ RetainedInRange s ∧ ∃ t, step s = .next t :=
  ⟨by unfold PendingPlausible; decide +kernel, by decide +kernel, by unfold EngagedOk; decide +kernel,
    by unfold RetainedInRange; decide +kernel, step_completes _⟩

theorem witness_FrameFormat :
    (⟨1#8, 2#8, 3#8, List.replicate 40 0#8⟩ : Frame).payload.length ≤ 40 ∧ enum9.payload.length ≤ 40 := by decide +kernel

theorem witness_LineCarriesContent :
    let idle := { freshReceiver .hunt with recessiveRun := 11 }
    let short := frameContent ⟨9#8, 12#8, 0x08#8, []⟩
    let long := frameContent ⟨0xFF#8, 12#8, 0x0B#8, List.replicate 40 0#8⟩
    idle.state = .hunt ∧ Config.idleBits ≤ idle.recessiveRun ∧ idle.dominantRun = 0 ∧ idle.leading = false
      ∧ Config.busResetBits < bitsPerSecond 0 ∧ short.length = 5 ∧ addressPasses (some 9) (short.getD 0 0) = true
      ∧ long.length = 45 ∧ addressPasses none (long.getD 0 0) = true
      ∧ ¬ (short.getD 0 0 = 0xFF#8 ∨ some 8 = some (short.getD 0 0).toNat)
      ∧ ¬ (short.getD 0 0 = 0xFF#8 ∨ none = some (short.getD 0 0).toNat) := by decide +kernel

/-- R85: a frame to node 9 at the receiver of node 8, and at node 9. -/
theorem test_skipped_frame :
    let idle := { run.link with closed := [] }
    let content := frameContent ⟨9#8, 12#8, 0x08#8, []⟩
    (sampleBits (some 8) 62500 idle (lineBits content)).closed = []
      ∧ (sampleBits (some 8) 62500 idle ((lineBits content).take 20)).receiver.state = .skipping
      ∧ (sampleBits (some 9) 62500 idle (lineBits content)).closed = [⟨bytesBits content, false⟩] := by decide +kernel

theorem witness_RecordRoundTrip : profileValid Config.defaultProfile = true
    ∧ profileValid { Config.defaultProfile with calibration := 256, ocv := [⟨0, 0⟩, ⟨65535, 1000⟩], alpha := 30, sharing := true }
      = true := by decide +kernel

theorem witness_ParsedRecordIsValid : ∃ r, parseRecord defaultBytes = some r := ⟨_, test_default_parses.1⟩

theorem witness_Arithmetic :
    (0 : Nat) < 1 ∧ (-40 : Int) ≤ 125 ∧ (-41 : Int) < -40 ∧ (125 : Int) < 126 ∧ (-40 : Int) ≤ -40
      ∧ (250 : Int) ≤ 1000 + (30 : Nat) * ((0 : Int) - 25) ∧ 1000 + (30 : Nat) * ((125 : Int) - 25) ≤ 4000
      ∧ 1000 + (30 : Nat) * ((-40 : Int) - 25) < 250 ∧ 4000 < 1000 + (30 : Nat) * ((126 : Int) - 25)
      ∧ 65535 * 12000 ≤ 786420 * 1000 ∧ ¬ 65535 * 12000 ≤ 786419 * 1000
      ∧ (16777215 : Nat) ≤ 16777215 ∧ ratioOf Config.defaultProfile 18078 < 65535
      ∧ 0 < Config.defaultProfile.ratedResistance := by decide +kernel

theorem witness_SocLookupFollowsTable :
    let p := Config.defaultProfile
    profileValid p = true ∧ p.ocv.head? = some ⟨3000, 0⟩ ∧ p.ocv.getLast? = some ⟨4100, 1000⟩
      ∧ p.ocv = [⟨3000, 0⟩] ++ ⟨3400, 100⟩ :: ⟨3550, 300⟩ :: (p.ocv.drop 3) ∧ 3400 < 3401 ∧ 3549 < 3550 := by
  decide +kernel

def point (t soc : Nat) : RestPoint := ⟨t, 52000, 3714, soc, (soc * 64 : Nat), 20⟩

theorem witness_ListKeepsExtremes :
    [point 1 5] ≠ [] ∧ ([] : List RestPoint).length < 8 ∧ (List.replicate 7 (point 1 5)).length < 8
      ∧ (List.replicate 8 (point 1 5)).length = 8 := by decide +kernel

theorem witness_EstimateFoldsIn :
    profileValid Config.defaultProfile = true ∧ (0 : Int) < 1 ∧ (1 : Nat) ≤ 1000 ∧ emptyGrade.capacity = none
      ∧ record0.capacity = some 63629 ∧ 1 ≤ 63629 ∧ 63629 ≤ 16777215
      ∧ profileValid { Config.defaultProfile with smoothing := 16 } = true := by decide +kernel

theorem witness_ClassIsWorst :
    let p := Config.defaultProfile
    p.sB ≤ p.sA ∧ p.sC ≤ p.sB ∧ p.rA ≤ p.rB ∧ p.rB ≤ p.rC ∧ emptyGrade.capacity = none
      ∧ record0.capacity.isSome = true ∧ record0.r25c.isSome = true ∧ record0.soh = some 677 ∧ record0.ratio = some 1506
      ∧ record0.sd = some 14 := by decide +kernel

theorem witness_EpochRisesOnChange :
    record0.epoch = run.grade.epoch ∧ deriveClass (prof run) record0 = run.grade.gradeClass
      ∧ ({ record0 with sd := some 15 } : GradeRecord).sd ≠ run.grade.sd
      ∧ (peer 12 ∈ run.table.entries ∧ run.table.pin ≠ some 12)
      ∧ (({ run.table with pin := some 12 } : PeerTable).pin = some (peer 12).number
          ∧ run.seconds < (peer 12).lastHeard + (prof run).peerAgeLimit * (prof run).announceInterval)
      ∧ run.table.entries.length ≤ 32 ∧ (run.table.entries.map (fun e => e.number)).Nodup
      ∧ run.table.entries.Pairwise (fun a b => standsAhead a b = true) := by decide +kernel

theorem witness_EpochRiseAtBond :
    recordComplete emptyGrade = false ∧ recordComplete run.grade = true ∧ run.ret.bondState = .free
      ∧ bonded12.ret.bondState = .bonded ∧ bonded12.ret.engaged = some 12 ∧ bonded12.grade.gradeClass = bonded12.bond.bondClass
      ∧ bonded12.ret.freeze = false ∧ bonded12.grade.gradeClass ≠ some .a ∧ proposing12.ret.bondState = .proposing
      ∧ held12.ret.bondState = .held ∧ (setBondState .rejected none run).ret.bondState = .rejected
      ∧ (setBondState .bondedSilent (some 12) run).ret.bondState = .bondedSilent
      ∧ (setBondState .unready none run).ret.bondState = .unready ∧ run.link.mode = .up ∧ run.ret.activity = .active
      ∧ run.grade.gradeClass = some .b ∧ ({ record0 with gradeClass := some .x } : GradeRecord).gradeClass = some .x
      ∧ proposing12.ret.engaged = some 12 ∧ proposing12.bond.proposeTaken = true
      ∧ (setBondState .bondedSilent (some 12) run).ret.engaged = some 12
      ∧ (let empty (s : State) : State := s.setRet { s.ret with grade := emptyGrade }
         recordComplete (empty held12).grade = false ∧ (empty held12).ret.bondState = .held
           ∧ (empty proposing12).ret.engaged = some 12 ∧ (empty bonded12).ret.engaged = some 12
           ∧ (empty run).ret.bondState = .free) := by decide +kernel

def counting (r c : Int) : State :=
  run.setRet { run.ret with residue := r, charge := c, profile := some { Config.defaultProfile with calibration := 256 } }

theorem witness_ChargePulseCounts :
    inRun State.reset = false ∧ inRun (counting 0 0) = true ∧ (prof (counting 0 0)).calibration = 256
      ∧ (counting 254 0).ret.residue + 1 ≠ 256
      ∧ ((counting 255 8388605).ret.residue + 1 = 256 ∧ (counting 255 8388605).ret.charge + 1 < 8388607)
      ∧ (8388607 ≤ (counting 255 8388606).ret.charge + 1 ∧ (counting 255 8388606).ret.charge ≤ Config.chargeMax)
      ∧ ((counting (-255) 0).ret.residue - 1 = -256 ∧ -8388608 < (counting (-255) (-8388606)).ret.charge - 1)
      ∧ ((counting (-255) (-8388608)).ret.charge - 1 ≤ -8388608
          ∧ Config.chargeMin ≤ (counting (-255) (-8388608)).ret.charge) := by decide +kernel

/-- Bonded with 12, heard at 990 with that voltage. -/
def reported (mv : Option Nat) : State := bonded12.setBond { bonded12.bond with report := some ⟨mv, 990⟩ }

theorem witness_WindowCloseForms :
    inRun run = true ∧ run.fe.window.isSome = true ∧ run.pulse.state ≠ .returnCheck ∧ bondStands run.ret.bondState = false
      ∧ bondStands (after (.windowClose 52100) (reported (some 52300))).ret.bondState = true
      ∧ (reported (some 52300)).bond.report = some ⟨some 52300, 990⟩
      ∧ (reported (some 52300)).seconds ≤ 990 + 2 * (prof run).announceInterval ∧ absDiff 52100 52300 ≤ (prof run).joinLimit
      ∧ ¬ absDiff 52099 52300 ≤ (prof run).joinLimit
      ∧ (reported none).bond.report.bind (fun report => report.voltage) = none := by decide +kernel

/-- R157: the test at an own sample record, at the join limit and 1 mV past it. -/
theorem test_pair_test_at_record :
    (after (.windowClose 52100) (reported (some 52300))).bond.pairEn = true
      ∧ (after (.windowClose 52099) (reported (some 52300))).bond.pairEn = false := by decide +kernel

def counted (chg dsg : Nat) (st : RestState) : State :=
  { run with fe := { run.fe with chg := chg, dsg := dsg }, rest := { run.rest with state := st } }

theorem witness_WindowCloseAtRest :
    let quiet (s : State) : Prop := (closeRecord 52000 s).current.natAbs ≤ (prof s).restThreshold
    (run.pulse.state = .idle ∧ bondStands run.ret.bondState = false ∧ run.ret.activity = .active)
      ∧ (bondStands (reported (some 52000)).ret.bondState = true ∧ (reported (some 52000)).pulse.state = .idle
          ∧ (reported (some 52000)).bond.report = some ⟨some 52000, 990⟩)
      ∧ (closeRecord 52000 (counted 9 9 .moving)).faulted = true ∧ (closeRecord 52000 (counted 8 8 .moving)).faulted = false
      ∧ ((run.setRet { run.ret with activity := .dormant }).ret.activity = .dormant)
      ∧ quiet (counted 10 0 .moving) ∧ ¬ quiet (counted 11 0 .moving) ∧ quiet (counted 0 10 .rested)
      ∧ ¬ quiet (counted 0 11 .settling) := by decide +kernel

def pulsing (n : Nat) : State := { run with pulse := ⟨.pulsing, n, false, some ⟨52400, -120⟩, none⟩ }

/-- R23, R36 and R45 beside a pulse: a faulted record breaks continuity and spoils it; a loud one inside it does not end the
rest. -/
theorem test_record_beside_pulse :
    let s (chg dsg : Nat) : State := { pulsing 3 with
      fe := { run.fe with chg := chg, dsg := dsg }, rest := { run.rest with state := .postPulseSettling } }
    (after (.windowClose 52000) (s 9 9)).rest.state = .moving ∧ (after (.windowClose 52000) (s 9 9)).pulse.spoiled = true
      ∧ (after (.windowClose 52000) (s 0 99)).rest.state = .postPulseSettling := by decide +kernel

theorem witness_WindowClosePulsing :
    (pulsing 0).pulse.state = .pulsing ∧ ((prof run).pulseWidth + windowMs (prof run).gateCode - 1) / windowMs (prof run).gateCode = 50
      ∧ (pulsing 49).pulse.windows + 1 ≠ 50 + 1 ∧ (pulsing 50).pulse.windows + 1 = 50 + 1 := by decide +kernel

def returning (i1 : Int) : State :=
  { run with
    pulse := ⟨.returnCheck, 51, false, some ⟨52400, -120⟩, some ⟨52262, i1, 31⟩⟩
    rest := { run.rest with state := .postPulseSettling } }

theorem witness_ReturnCheckJudges :
    (returning (-2120)).pulse.state = .returnCheck ∧ (closeRecord 52400 (returning (-2120))).faulted = false
      ∧ ((prof run).minimumStep : Int) ≤ -120 - (-2120) ∧ ¬ ((prof run).minimumStep : Int) ≤ -120 - (-2119)
      ∧ ((closeRecord 52400 (returning (-2120))).current - (-120)).natAbs ≤ (prof run).restThreshold
      ∧ (returning 0).rest.state = .postPulseSettling ∧ (returning 0).rest.restTimer = none := by decide +kernel

def waiting (st : RestState) (temp : Int) : State :=
  { run with
    rest := ⟨st, some 1000, some 1000, some ⟨52100, 800, 0, 20⟩, []⟩
    fe := { run.fe with lastTemperature := some temp } }

theorem witness_SecondAdvances :
    State.reset.supply.state = .off ∧ (setSupplyState .hold .warm run).supply.state = .hold
      ∧ (setSupplyState .reset .restart run).supply.state = .reset ∧ run.supply.state = .run
      ∧ (waiting .capturePending 50).rest.state = .capturePending
      ∧ inCaptureWindow (prof run) (clamp (-40) 125 (roundHalfUpInt 4499 1000)) = false
      ∧ inCaptureWindow (prof run) (clamp (-40) 125 (roundHalfUpInt 4500 1000)) = true := by decide +kernel

theorem witness_CaptureTakesPoint :
    let fresh := run.setRet { run.ret with grade := emptyGrade }
    let done := run.setRet { run.ret with lastPulse := some 900 }
    fresh.fe.lastVoltage = some ⟨52000, 3714⟩ ∧ fresh.fe.lastTemperature = some 20 ∧ fresh.fe.lastSample = some sample0
      ∧ fresh.pulse.state = .idle ∧ fresh.grade.r25c = none ∧ (prof fresh).pulseLow ≤ 20
      ∧ 20 ≤ (prof fresh).pulseHigh ∧ done.grade.r25c ≠ none ∧ done.ret.lastPulse ≠ none
      ∧ ¬ done.ret.lastPulse.getD 0 + (prof done).pulseInterval * 3600 ≤ done.seconds := by decide +kernel

/-- R26, R34, R58 to R62: a capture whose point completes a pair gives an estimate and keeps the pair's times. -/
theorem test_capture_estimates :
    let s := run.setRet { run.ret with points := [point 900 100], charge := 64000, lastPulse := some 900 }
    (capture s).ret.offered = some ⟨1000, 900⟩ ∧ (capture s).grade.estimateCount = 4 ∧ (capture s).grade.epoch = 8 := by
  decide +kernel

def listed (l : List RestPoint) (o : Option PairTimes) : State := run.setRet { run.ret with points := l, offered := o }

theorem witness_PairIsExamined :
    let two := listed [point 1 400, point 2 500] none
    (highPoint two.ret.points = some (point 2 500) ∧ lowPoint two.ret.points = some (point 1 400)
        ∧ (prof two).minimumWindow ≤ 500 - 400 ∧ (point 1 400).charge < (point 2 500).charge)
      ∧ (listed [point 1 400] none).ret.points.length < 2
      ∧ (listed [point 1 400, point 2 500] (some ⟨2, 1⟩)).ret.offered = some ⟨2, 1⟩
      ∧ (499 - 400 < (prof two).minimumWindow) ∧ ({ point 2 500 with charge := 25600 } : RestPoint).charge ≤ (point 1 400).charge
      ∧ ({ run with rest := { run.rest with removals := [2] } } : State).rest.removals = 2 :: []
      ∧ (∀ p ∈ [point 1 400], p.time ≠ 2) ∧ (∃ p ∈ two.ret.points, p.time = 2) := by decide +kernel

theorem witness_RestTimersExpire :
    (waiting .settling 5).rest.restTimer = some 1000 ∧ 1000 ≤ (waiting .settling 5).seconds
      ∧ (waiting .settling 5).fe.lastVoltage = some ⟨52000, 3714⟩ ∧ (prof run).captureLow ≤ 5 ∧ 40 ≤ (prof run).captureHigh
      ∧ 4 < (prof run).captureLow ∧ (prof run).captureHigh < 41
      ∧ (waiting .postPulseSettling 20).rest.state = .postPulseSettling
      ∧ (waiting .rested 20).rest.longTimer = some 1000 ∧ (waiting .rested 20).rest.reference = some ⟨52100, 800, 0, 20⟩
      ∧ inCaptureWindow (prof run) 41 = false ∧ inCaptureWindow (prof run) 40 = true := by decide +kernel

theorem witness_ScheduleTimersExpire :
    run.fp.announceTimer.isSome = true ∧ State.reset.fp.announceTimer = none ∧ run.bond.proposalTimer.isSome = true
      ∧ bonded12.ret.bondState ≠ .free ∧ (frozen run).ret.freeze = true
      ∧ candidates (prof run) run.grade ⟨[], none⟩ = [] ∧ run.ret.bondState = .free ∧ run.ret.freeze = false
      ∧ candidates (prof run) run.grade run.table = peer 3 :: [peer 12] := by decide +kernel

theorem witness_BondTimersExpire :
    (proposing12.bond.replyTimer.isSome = true ∧ proposing12.ret.bondState = .proposing ∧ proposing12.ret.engaged = some 12)
      ∧ (held12.bond.holdTimer.isSome = true ∧ held12.ret.bondState = .held)
      ∧ (bonded12.bond.partnerTimer.isSome = true ∧ bonded12.ret.bondState = .bonded ∧ bonded12.ret.freeze = false)
      ∧ (frozen bonded12).ret.freeze = true ∧ run.bond.replyTimer = none ∧ run.bond.holdTimer = none
      ∧ run.bond.partnerTimer = none := by decide +kernel

def quietAt (h : Nat) : State :=
  let s := numbering .quietWait .chained none run
  s.setComm { s.comm with quietTimer := some 50, highest := h, held := none }

theorem witness_ChainedNodesNumber :
    (numbering .chainWait .chained none run).comm.numbering = some .chainWait ∧ run.comm.numbering ≠ some .chainWait
      ∧ inRun run = true ∧ run.comm.state = .ready ∧ run.comm.method = some .fixed
      ∧ (numbering .claiming .retained (some 9) run).comm.state = .numbering
      ∧ (numbering .claiming .retained (some 9) run).comm.method = some .retained
      ∧ (quietAt 239).comm.method = some .chained ∧ (quietAt 239).ret.freeze = false ∧ (frozen (quietAt 239)).ret.freeze = true
      ∧ (quietAt 238).comm.quietTimer.isSome = true ∧ (quietAt 238).comm.highest < 239 ∧ 239 ≤ (quietAt 239).comm.highest
      ∧ run.comm.quietTimer = none := by decide +kernel

def announceQ : Frame := ⟨0xFF#8, 9#8, 0x02#8, []⟩

theorem witness_OfferRules :
    let full := { run.link with queue := [propose9, announceQ, propose9, propose9] }
    (run.link.mode = .up ∧ run.link.queue.length < 4)
      ∧ ({ run.link with mode := .muted } : Link).mode ≠ .up
      ∧ (announceQ.kind = 0x02#8 ∧ ∃ g ∈ full.queue, g.kind = 0x02#8)
      ∧ (full.queue.length = 4 ∧ full.queue = [propose9] ++ announceQ :: [propose9, propose9]
          ∧ (∀ x ∈ [propose9], x.kind ≠ 0x02#8) ∧ enum9.kind ≠ 0x02#8 ∧ isSegment enum9 = false
          ∧ ¬ (enum9.kind = 0x01#8 ∧ ∃ g ∈ full.queue, g.kind = 0x01#8))
      ∧ (∀ g ∈ [propose9, propose9, propose9, enum9], g.kind ≠ 0x02#8)
      ∧ ({ full with queue := [announceQ, propose9, propose9, propose9], transmitter := .sending } : Link).queue
          = announceQ :: [propose9, propose9, propose9]
      ∧ isProposeTo 12 propose9 = true ∧ (∀ x ∈ [enum9], isProposeTo 12 x = false)
      ∧ isEnum enum9 = true ∧ (∀ x ∈ [propose9], isEnum x = false) ∧ (∀ g ∈ full.queue, isEnum g = false)
      ∧ ([enum9, propose9] = [] ++ enum9 :: [propose9]) ∧ ([propose9, enum9] = [propose9] ++ enum9 :: []) := by decide +kernel

/-- R97, R178: an ENUM behind the head leaves the queue, one in SENDING stays. -/
theorem test_withdraw_enum :
    let l (t : TransmitterState) (q : List Frame) : Link := { run.link with transmitter := t, queue := q }
    (withdrawFrame (l .sending [propose9, enum9, propose9]) isEnum).queue = [propose9, propose9]
      ∧ (withdrawFrame (l .sending [enum9, propose9]) isEnum).queue = [enum9, propose9]
      ∧ withdrawFrame (l .wait [enum9]) isEnum = l .idle [] := by decide +kernel

def dormant (b : BondState) : State := setBondState b none (run.setRet { run.ret with activity := .dormant })

def sending (f : Frame) (o : Option AttemptOutcome) (s : State) : State :=
  s.setLink { s.link with queue := [f], transmitter := .sending, attempt := some ⟨f, lineBits (frameContent f), 5, o⟩ }

theorem witness_ArbitrationAndHoldoff :
    let s := sending propose9 (some .lost) run
    let h := run.setLink { run.link with transmitter := .holdoff, holdoff := some 20 }
    ((sampled [] s).link.transmitter = .sending ∧ (sampled [] s).link.attempt.map (fun a => a.outcome) = some (some .lost))
      ∧ (let n := sampled [] (sending propose9 none run)
         n.link.receiver.state ≠ .off ∧ n.link.attempt.map (fun a => (a.outcome, a.bits[a.sent]?)) = some (none, some true))
      ∧ (sampled [] run).link.transmitter ≠ .sending ∧ h.link.transmitter = .holdoff ∧ h.link.holdoff.isSome = true
      ∧ run.link.holdoff = none := by decide +kernel

/-- An attempt with a PROPOSE that has sent that many bits as read back. -/
def sendingAt (n : Nat) : State :=
  run.setLink { run.link with
    queue := [propose9], transmitter := .sending, attempt := some ⟨propose9, lineBits (frameContent propose9), n, none⟩ }

/-- R90, R91, R92: what the read-back of one bit shows. -/
theorem test_read_back :
    let last := (lineBits (frameContent propose9)).length - 1
    let shown (n : Nat) (b : Bool) := (sampled [b] (sendingAt n)).link.attempt.map (fun a => (a.sent, a.outcome))
    shown 5 false = some (5, some .lost) ∧ shown 0 true = some (0, some .lineFault) ∧ shown 5 true = some (6, none)
      ∧ shown 0 false = some (1, none) ∧ shown last false = some (last + 1, some .complete) := by decide +kernel

def queued (f : Frame) (s : State) : State := s.setLink { s.link with queue := [f], transmitter := .wait }

theorem witness_AttemptBegins :
    (sampled [] (queued propose9 run)).link.transmitter = .wait ∧ 11 ≤ (sampled [] (queued propose9 run)).link.receiver.recessiveRun
      ∧ (queued propose9 run).link.queue = propose9 :: [] ∧ propose9.kind ≠ 0x02#8 ∧ announceQ.kind = 0x02#8
      ∧ (sampled [] run).link.transmitter ≠ .wait ∧ (sampled [false] (queued propose9 run)).link.receiver.recessiveRun < 11 := by
  decide +kernel

theorem witness_AttemptEnds :
    let c (m : NumberMethod) := sending enum9 (some .lineFault) (numbering .claiming m (some 9) run)
    ((sampled [] (sending propose9 (some .lineFault) run)).link.attempt.map (fun a => a.outcome) = some (some .lineFault)
        ∧ run.comm.numbering ≠ some .claiming)
      ∧ ((c .fixed).comm.numbering = some .claiming ∧ (c .fixed).link.queue.head? = some enum9 ∧ enum9.kind = 0x01#8
          ∧ (c .fixed).comm.claim = some 9 ∧ (c .fixed).comm.method = some .fixed ∧ (c .chained).comm.method = some .chained
          ∧ (c .retained).comm.method = some .retained)
      ∧ (setBondState .unready none run).ret.bondState = .unready ∧ recordComplete run.grade = true
      ∧ (dormant .unready).ret.activity = .dormant ∧ run.ret.activity = .active ∧ run.grade.gradeClass = some .b
      ∧ (sampled [] (sending announceQ (some .complete) run)).link.attempt.map (fun a => a.frame.kind) = some 0x02#8
      ∧ (sampled [] (sending enum9 (some .complete) run)).link.attempt.map (fun a => a.outcome) = some (some .complete)
      ∧ sharer.ret.source = some .externalMemory ∧ (prof sharer).sharing = true ∧ run.ret.source ≠ some .externalMemory
      ∧ propose9.kind ≠ 0x01#8 ∧ propose9.kind ≠ 0x02#8
      ∧ (let a (n : Nat) := (sampled [] (sendingAt n)).link.attempt.map (fun a => (a.outcome, a.bits[a.sent]?))
         (sampled [] (sendingAt 0)).link.receiver.state ≠ .off ∧ (sampled [] (sendingAt 0)).link.transmitter = .sending
           ∧ a 0 = some (none, some false) ∧ a 5 = some (none, some true)) := by decide +kernel

/-- R179, R173: the ENUM of a sharer completes; its link is UP and segment 0 is queued. -/
theorem test_sharer_comes_up :
    let s := sending enum9 (some .complete) (numbering .claiming .fixed (some 9) sharer)
    (after (.attemptComplete []) s).comm.share = some 1 ∧ (after (.attemptComplete []) s).link.queue.length = 1
      ∧ (after (.attemptComplete []) s).link.queue.all isSegment = true := by decide +kernel

theorem witness_DominantRunEvents :
    let near (n : Nat) := run.setLink { run.link with receiver := { freshReceiver .hunt with dominantRun := n } }
    (near 63).link.receiver.state ≠ .off ∧ 124999 + 1 = bitsPerSecond (prof run).bitRateCode
      ∧ (sampled [false] (near 124999)).link.stuckDue = true ∧ (sampled [false] (near 124998)).link.stuckDue = false
      ∧ (sampled [false] (near 63)).link.resetDue = true ∧ (sampled [false] (near 62)).link.resetDue = false
      ∧ run.comm.numbering ≠ some .claiming ∧ proposing12.ret.bondState = .proposing
      ∧ (∃ f ∈ (queued enum9 run).link.queue, f.kind = 0x01#8)
      ∧ (numbering .claiming .fixed (some 9) run).comm.claim = some 9
      ∧ (numbering .claiming .retained (some 9) run).comm.method = some .retained
      ∧ ({ run.link with mode := .listen } : Link).mode = .listen := by decide +kernel

def receivingAt (r b : Nat) (bit : Bool) : State :=
  run.setLink { run.link with receiver := { freshReceiver .receiving with
    stuffRun := r, stuffBit := bit, assembly := List.replicate b true } }

/-- In HUNT with those run counts, the 0 that came out of an idle line seen. -/
def hunting (recessive dominant : Nat) : State :=
  run.setLink { run.link with receiver := { freshReceiver .hunt with
    recessiveRun := recessive, dominantRun := dominant, leading := true } }

theorem witness_ReceiverEvents :
    let at1 (s : State) : Receiver := (sampled [] s).link.receiver
    let opened : Receiver := (sampled (delimiter.take 8) run).link.receiver
    inRun run = true
      ∧ (opened.state = .hunt ∧ opened.leading = true ∧ opened.recessiveRun = 7 ∧ opened.dominantRun = 0)
      ∧ ((at1 (hunting 6 0)).state = .hunt ∧ (at1 (hunting 6 0)).recessiveRun ≠ 7 ∧ (at1 (hunting 8 0)).recessiveRun ≠ 7
          ∧ (at1 (hunting 11 0)).dominantRun = 0 ∧ (at1 (hunting 0 63)).recessiveRun = 0 ∧ (at1 (hunting 0 63)).dominantRun = 63)
      ∧ ((at1 (receivingAt 6 9 false)).state = .receiving ∧ (at1 (receivingAt 6 9 false)).stuffRun = 6
          ∧ (at1 (receivingAt 6 9 false)).stuffBit = false)
      ∧ (at1 (receivingAt 7 9 true)).stuffRun = 7
      ∧ ((at1 (receivingAt 5 367 true)).assembly.length = 367 ∧ (at1 (receivingAt 5 367 true)).stuffRun < 6) := by
  decide +kernel

/-- R163: at a conflict a frozen bond stands with its pin, an unfrozen one is gone. -/
theorem test_conflict_and_bond :
    let heard (s : State) : State := after (.frameReceived [])
      (s.setLink { s.link with closed := [⟨bytesBits (frameContent propose9), false⟩] })
    let pinned := bonded12.setTable ⟨[peer 12], some 12⟩
    (heard (frozen pinned)).ret.bondState = .bonded ∧ (heard (frozen pinned)).table = ⟨[], some 12⟩
      ∧ (heard pinned).ret.bondState = .unready ∧ (heard pinned).table = ⟨[], none⟩ := by decide +kernel

/-- R84, R81: an opening delimiter out of the idle line opens a frame; a seventh dominant bit aborts it. -/
theorem test_opening_delimiter :
    let t := after (.openingDelimiter delimiter) run
    t.link.receiver.state = .receiving ∧ (after (.receiveAbort (List.replicate 7 false)) t).link.receiver.state = .hunt := by
  decide +kernel

def closedWith (content : List Byte) (own : Bool) (s : State) : State :=
  s.setLink { s.link with closed := [⟨bytesBits content, own⟩] }

theorem witness_FrameReceivedIsJudged :
    let good := frameContent propose9
    let fifo (n : Nat) := run.setLink { run.link with fifo := List.replicate n good }
    ((sampled [] (closedWith good false run)).link.closed = ⟨bytesBits good, false⟩ :: []
        ∧ 40 ≤ (bytesBits good).length ∧ (bytesBits good).length % 8 = 0 ∧ (bytesBits good).length ≤ 360
        ∧ crc (bitsBytes ((bytesBits good).length / 8) (bytesBits good)) = 0#16)
      ∧ ¬ 40 ≤ (bytesBits [0#8, 0#8, 0#8, 0#8]).length
      ∧ run.comm.held = some (good.getD 1 0).toNat ∧ run.comm.numbering = some .numbered
      ∧ ((numbering .claiming .fixed (some 9) run).comm.numbering = some .claiming
          ∧ (numbering .claiming .retained (some 9) run).comm.method = some .retained)
      ∧ (numbering .conflict .fixed none run).comm.numbering = some .conflict
      ∧ (frozen bonded12).ret.freeze = true ∧ (frozen bonded12).comm.held = some (good.getD 1 0).toNat
      ∧ run.comm.held ≠ some ((frameContent { propose9 with src := 12#8 }).getD 1 0).toNat
      ∧ ({ propose9 with src := 0#8 } : Frame).src = 0#8 ∧ propose9.kind ≠ 0x01#8
      ∧ (fifo 3).link.fifo.length < 4 ∧ 4 ≤ (fifo 4).link.fifo.length := by decide +kernel

def aging (now : Nat) (m : Option DeclineMark) : State :=
  (run.setDom { run.dom with seconds := now }).setTable ⟨[peer 3, { peer 12 with mark := m }], none⟩

theorem witness_PeerEntriesExpire :
    entryOf (aging 1050 none).table 12 = some (peer 12) ∧ (peer 12).lastHeard + (prof run).peerAgeLimit * (prof run).announceInterval = 1050
      ∧ (aging 1050 none).table.pin ≠ some 12 ∧ ¬ (peer 12).lastHeard + 60 ≤ (aging 1049 none).seconds
      ∧ (aging 1040 (some ⟨.frozen, 1040⟩)).seconds = 1040
      ∧ (entryOf (aging 1040 (some ⟨.rank, 1040⟩)).table 12).map (fun e => e.mark) = some (some ⟨.rank, 1040⟩)
      ∧ (aging 1039 (some ⟨.rank, 1040⟩)).seconds < 1040 := by decide +kernel

def crowded : PeerTable := ⟨(List.range 32).map (fun i => { peer (i + 100) with score := none }), some 131⟩

theorem witness_AnnounceEntersTable :
    entryOf run.table 12 = some (peer 12) ∧ entryOf run.table 9 = none ∧ run.table.entries.length < 32
      ∧ entryOf crowded 9 = none ∧ 32 ≤ crowded.entries.length
      ∧ crowded.entries = crowded.entries.take 30 ++ { peer 130 with score := none } :: [{ peer 131 with score := none }]
      ∧ crowded.pin ≠ some 130 ∧ (∀ e ∈ [{ peer 131 with score := none }], crowded.pin = some e.number) := by decide +kernel

theorem witness_ScoresAndCandidates :
    record0.capacity = some 63629 ∧ record0.r25c = some 18078 ∧ record0.sd = some 14 ∧ emptyGrade.sd = none
      ∧ recordComplete emptyGrade = false ∧ ({ record0 with gradeClass := some .x } : GradeRecord).gradeClass = some .x := by
  decide +kernel

theorem witness_FramesSetAside :
    let bad : Frame := { propose9 with payload := [] }
    (frontFrame (incoming bad run) = some bad ∧ wellFormed bad = false)
      ∧ frontFrame (incoming { propose9 with kind := 0x0C#8 } run) = some { propose9 with kind := 0x0C#8 }
      ∧ (0x0C#8 : Byte) ≤ 0x0C#8 ∧ frontFrame (incoming ⟨9#8, 12#8, 0x09#8, []⟩ run) = some ⟨9#8, 12#8, 0x09#8, []⟩
      ∧ (unloaded run).ret.inForce = false
      ∧ ((unloaded run).setComm { run.comm with state := .failed }).comm.state = .failed
      ∧ propose9.kind ≠ 0x01#8 ∧ enum9.kind ≠ 0x03#8 := by decide +kernel

def otherEnum : Frame := ⟨0xFF#8, 0#8, 0x01#8, [239#8, 0x02#8]⟩
def chainedClaiming : State := queued ⟨0xFF#8, 0#8, 0x01#8, [13#8, 0x02#8]⟩ (numbering .claiming .chained (some 13) run)

theorem witness_EnumIsHeard :
    takes (incoming otherEnum run) otherEnum ∧ otherEnum.kind = 0x01#8 ∧ run.comm.state ≠ .failed
      ∧ takes (incoming otherEnum (quietAt 12)) otherEnum ∧ (quietAt 12).comm.numbering = some .quietWait
      ∧ takes (incoming otherEnum chainedClaiming) otherEnum ∧ chainedClaiming.comm.method = some .chained
      ∧ queuedNotSending chainedClaiming.link isEnum = true := by decide +kernel

theorem witness_AnnounceIsHeard :
    let f := announceOf 13#8 0x01#8 0xFF#8 0x02#8
    takes (incoming f run) f ∧ f.kind = 0x02#8 ∧ bondStands run.ret.bondState = false ∧ run.ret.inForce = true
      ∧ run.link.mode = .up ∧ (unloaded run).ret.inForce = false ∧ takes (incoming f chainedClaiming) f
      ∧ chainedClaiming.comm.claim.getD 0 ≤ f.src.toNat ∧ ({ run.link with mode := .listen } : Link).mode ≠ .up := by
  decide +kernel

theorem witness_PartnerAnnounceIsExamined :
    let same := announceOf 12#8 0x04#8 9#8 0x02#8
    let other := announceOf 12#8 0x04#8 9#8 0x03#8
    let away := announceOf 12#8 0x04#8 8#8 0x02#8
    (takes (incoming same bonded12) same ∧ bonded12.ret.engaged = some same.src.toNat ∧ bonded12.link.mode = .up
        ∧ bondStands bonded12.ret.bondState = true ∧ (readAnnounce same).gradeClass = bonded12.bond.bondClass
        ∧ (readAnnounce same).bondState = .bonded ∧ (readAnnounce same).partner = bonded12.comm.held)
      ∧ (takes (incoming other bonded12) other ∧ (readAnnounce other).gradeClass ≠ bonded12.bond.bondClass
        ∧ bonded12.ret.freeze = false ∧ bonded12.grade.gradeClass ≠ some .x)
      ∧ (takes (incoming away bonded12) away ∧ (readAnnounce away).partner ≠ bonded12.comm.held ∧ bonded12.bond.inconsistency = 0)
      ∧ 1 ≤ ({ bonded12.bond with inconsistency := 1 } : BondEngine).inconsistency
      ∧ (let waits := queued ⟨0xFF#8, 0#8, 0x01#8, [12#8, 0x02#8]⟩ (numbering .claiming .chained (some 12) bonded12)
         takes (incoming same waits) same ∧ queuedNotSending waits.link isEnum = true ∧ waits.comm.claim.getD 0 ≤ 12) := by
  decide +kernel

theorem witness_ProposeIsAnswered :
    let f (n e : Byte) : Frame := ⟨9#8, n, 0x03#8, [0#8, 86#8, e]⟩
    let far := run.setTable ⟨[peer 3, { peer 12 with score := some 137 }], none⟩
    (takes (incoming (f 3#8 8#8) bonded12) (f 3#8 8#8) ∧ bonded12.ret.engaged ≠ some 3)
      ∧ (takes (incoming (f 12#8 8#8) bonded12) (f 12#8 8#8) ∧ bonded12.ret.engaged = some 12)
      ∧ (frozen run).ret.freeze = true ∧ bondStands (frozen run).ret.bondState = false
      ∧ (setBondState .unready none run).ret.bondState = .unready ∧ (setBondState .rejected none run).ret.bondState = .rejected
      ∧ (held12.ret.bondState = .held ∧ held12.ret.freeze = false)
      ∧ (takes (incoming (f 12#8 8#8) proposing12) (f 12#8 8#8) ∧ proposing12.ret.engaged = some 12
          ∧ proposing12.comm.held = some 9 ∧ 9 < 12)
      ∧ 12 ≤ 13 ∧ entryOf run.table 4 = none ∧ entryOf run.table 12 = some (peer 12) ∧ (peer 12).epoch = 8 ∧ (peer 12).epoch ≠ 7
      ∧ eligible (prof run) run.grade (peer 12) = true
      ∧ eligible (prof run) run.grade { peer 12 with gradeClass := some .c } = false
      ∧ candidates (prof run) run.grade run.table = peer 3 :: [peer 12]
      ∧ candidates (prof run) run.grade ⟨[{ peer 12 with bondState := .proposing }], none⟩ = []
      ∧ (entryOf far.table 12).map (fun e => e.score) = some (some 137) ∧ 86 + (prof far).acceptanceMargin < 137
      ∧ 136 ≤ 86 + (prof far).acceptanceMargin := by decide +kernel

theorem witness_BondIsFormed :
    let a : Frame := ⟨9#8, 12#8, 0x04#8, [8#8]⟩
    let c : Frame := ⟨9#8, 12#8, 0x06#8, [8#8]⟩
    (takes (incoming a proposing12) a ∧ proposing12.ret.engaged = some a.src.toNat ∧ proposing12.ret.inForce = true)
      ∧ (takes (incoming c held12) c ∧ held12.ret.engaged = some c.src.toNat)
      ∧ (takes (incoming a bonded12) a ∧ bonded12.ret.engaged = some 12 ∧ takes (incoming c bonded12) c)
      ∧ (takes (incoming a run) a ∧ takes (incoming c run) c ∧ bondStands run.ret.bondState = false)
      ∧ entryOf proposing12.table 12 = some (peer 12) ∧ entryOf ⟨[], none⟩ 12 = none := by decide +kernel

theorem witness_DeclineAndRelease :
    let d : Frame := ⟨9#8, 12#8, 0x05#8, [0x02#8]⟩
    let late : Frame := ⟨9#8, 12#8, 0x07#8, [0x01#8]⟩
    let other : Frame := ⟨9#8, 12#8, 0x07#8, [0x05#8]⟩
    (takes (incoming d proposing12) d ∧ declineOfCode (u8 d.payload 0) = some .busy ∧ proposing12.ret.engaged = some 12)
      ∧ takes (incoming d run) d ∧ takes (incoming d bonded12) d ∧ takes (incoming late proposing12) late
      ∧ takes (incoming late held12) late ∧ takes (incoming late (frozen bonded12)) late
      ∧ takes (incoming other (frozen bonded12)) other ∧ other.payload ≠ [0x01#8] ∧ bonded12.ret.freeze = false
      ∧ takes (incoming other run) other := by decide +kernel

theorem witness_QueryIsAnswered :
    let f : Frame := ⟨9#8, 240#8, 0x08#8, []⟩
    takes (incoming f run) f ∧ f.kind = 0x08#8 ∧ run.ret.inForce = true ∧ run.grade.capacity = some 63629
      ∧ run.grade.soh = some 677 ∧ emptyGrade.soh = none ∧ emptyGrade.capacity = none ∧ emptyGrade.sd = none
      ∧ run.grade.estimateCount ≤ 255 ∧ run.grade.pulseTemperature = some 31 ∧ run.ret.points = []
      ∧ (listed [point 1 5] none).ret.points.getLast? = some (point 1 5) := by decide +kernel

theorem witness_AnnounceReadsBack :
    (prof bonded12).chemistry ≤ 255 ∧ 1 ≤ (prof bonded12).series ∧ (prof bonded12).series ≤ 255 ∧ bonded12.grade.epoch ≤ 255
      ∧ bonded12.grade.capacity = some 63629 ∧ bonded12.fe.lastVoltage = some ⟨52000, 3714⟩
      ∧ bonded12.ret.engaged.isSome = engagedState bonded12.ret.bondState ∧ bonded12.ret.engaged = some 12
      ∧ run.ret.engaged.isSome = engagedState run.ret.bondState ∧ bonded12.comm.held = some 9
      ∧ bonded12.grade.soh = some 677 ∧ bonded12.fe.lastTemperature = some 20 ∧ emptyGrade.soh = none
      ∧ ({ bonded12.fe with lastVoltage := some ⟨65535, 4681⟩ } : FrontEnd).lastVoltage = some ⟨65535, 4681⟩
      ∧ stoppedFrontEnd.lastVoltage = none ∧ stoppedFrontEnd.lastTemperature = none := by decide +kernel

/-- R195: a module whose VSENSE reads 65,535 mV is announced with no voltage. -/
theorem test_over_range_voltage :
    let s := run.setFe { run.fe with lastVoltage := some ⟨65535, 4681⟩ }
    (readAnnounce ⟨0xFF#8, 9#8, 0x02#8, announcePayload s⟩).voltage = none := by decide +kernel

def campaign (a n : Byte) : Frame := ⟨0xFF#8, 240#8, 0x0A#8, [a, n]⟩

theorem witness_CampaignActions :
    (takes (incoming (campaign 2#8 40#8) run) (campaign 2#8 40#8) ∧ run.ret.campaign = some 40)
      ∧ (takes (incoming (campaign 0#8 41#8) run) (campaign 0#8 41#8) ∧ takes (incoming (campaign 5#8 41#8) run) (campaign 5#8 41#8)
          ∧ run.ret.campaign ≠ some 41)
      ∧ (run.ret.activity = .active ∧ (dormant .free).ret.activity = .dormant ∧ (dormant .unready).ret.bondState = .unready
          ∧ recordComplete run.grade = true ∧ run.link.mode = .up ∧ run.grade.gradeClass.isSome = true
          ∧ ({ record0 with gradeClass := some .x } : GradeRecord).gradeClass = some .x)
      ∧ (takes (incoming (campaign 2#8 41#8) held12) (campaign 2#8 41#8) ∧ held12.ret.engaged.isSome = true)
      ∧ (takes (incoming (campaign 4#8 41#8) bonded12) (campaign 4#8 41#8) ∧ bonded12.ret.engaged = some 12)
      ∧ (takes (incoming (campaign 4#8 41#8) (frozen run)) (campaign 4#8 41#8) ∧ (frozen run).ret.freeze = true)
      ∧ takes (incoming (campaign 4#8 41#8) proposing12) (campaign 4#8 41#8) := by decide +kernel

theorem witness_RegradeEmptiesRecord :
    (takes (incoming (campaign 3#8 41#8) bonded12) (campaign 3#8 41#8) ∧ u8 (campaign 3#8 41#8).payload 0 = 3
        ∧ bonded12.ret.campaign ≠ some 41 ∧ bonded12.ret.freeze = false)
      ∧ takes (incoming (campaign 3#8 41#8) (frozen bonded12)) (campaign 3#8 41#8)
      ∧ (takes (incoming (campaign 3#8 41#8) proposing12) (campaign 3#8 41#8) ∧ proposing12.ret.engaged = some 12)
      ∧ (takes (incoming (campaign 3#8 41#8) held12) (campaign 3#8 41#8) ∧ run.ret.bondState = .free)
      ∧ (let silent := setBondState .bondedSilent (some 12) run
         takes (incoming (campaign 3#8 41#8) silent) (campaign 3#8 41#8) ∧ silent.ret.bondState = .bondedSilent)
      ∧ (setBondState .unready none run).ret.bondState = .unready := by decide +kernel

/-- R49, R50 and the pulse examples: in IDLE the window count of an ended pulse stands; a pulse in flight is cleared. -/
theorem test_pulse_abandoned :
    let ended (st : PulseState) : State := incoming (campaign 3#8 41#8) { run with pulse := ⟨st, 51, true, none, none⟩ }
    (after .campaignRegrade (ended .idle)).pulse.windows = 51 ∧ (after .campaignRegrade (ended .returnCheck)).pulse.windows = 0
      ∧ (after .supplyBelowHoldLevel (ended .idle)).pulse.windows = 51
      ∧ (after .supplyBelowHoldLevel (ended .pulsing)).pulse = idlePulse := by decide +kernel

def requestOf (src : Byte) : Frame := ⟨0xFF#8, src, 0x0B#8, [0#8, 0#8]⟩
def awaiting (b : Option AssemblyBuffer) : State :=
  (unloaded run).setComm { stoppedCommissioning with state := .awaitingProfile, requestTimer := some 2000, buffer := b }

theorem witness_ProfileRequests :
    (takes (incoming (requestOf 0#8) sharer) (requestOf 0#8) ∧ isRequest (requestOf 0#8) = true
        ∧ sharer.comm.numbering = some .numbered ∧ sharer.ret.source = some .externalMemory ∧ (prof sharer).sharing = true)
      ∧ (takes (incoming (requestOf 0#8) run) (requestOf 0#8) ∧ run.ret.source ≠ some .externalMemory)
      ∧ ((awaiting none).comm.state = .awaitingProfile ∧ (awaiting none).comm.requestTimer.isSome = true)
      ∧ (awaiting (some ⟨12, 4, 99, [], true⟩)).comm.buffer = some ⟨12, 4, 99, [], true⟩
      ∧ run.comm.state ≠ .awaitingProfile := by decide +kernel

def segment (i : Nat) : Frame :=
  ⟨0xFF#8, 12#8, 0x0B#8, [byteOf i, 4#8, 99#8] ++ (defaultBytes.drop (32 * i)).take 32⟩
def held (l : List Nat) : AssemblyBuffer := ⟨12, 4, 99, l.map (fun i => (i, (defaultBytes.drop (32 * i)).take 32)), true⟩

theorem witness_SegmentsAssemble :
    let full := { held [0, 1, 2] with segments := (held [0, 1, 2]).segments ++ [(3, (segment 3).payload.drop 3)] }
    (takes (incoming (segment 3) (awaiting none)) (segment 3) ∧ (segment 3).kind = 0x0B#8 ∧ isRequest (segment 3) = false
        ∧ 3 ≤ (segment 3).payload.length ∧ u8 (segment 3).payload 1 = (u8 (segment 3).payload 2 + 31) / 32
        ∧ u8 (segment 3).payload 0 < u8 (segment 3).payload 1
        ∧ ((segment 3).payload.drop 3).length = 99 - 32 * 3 ∧ ((segment 0).payload.drop 3).length = 32)
      ∧ run.comm.state ≠ .awaitingProfile
      ∧ (bufferComplete (held [0]) = false ∧ ({ held [0] with source := 13 } : AssemblyBuffer).source ≠ 12
          ∧ holdsIndex (held [3]) 3 = true ∧ ({ held [0] with length := 98 } : AssemblyBuffer).length ≠ 99
          ∧ holdsIndex (held [0]) 3 = false)
      ∧ (bufferComplete full = true ∧ 67 + 4 * u8 ((List.range 4).flatMap (segmentAt full)) 2 = 99
          ∧ (List.range 4).flatMap (segmentAt full) = defaultBytes)
      ∧ parseRecord (List.replicate 99 0#8) = none ∧ (∃ r, parseRecord defaultBytes = some r)
      ∧ ((awaiting none).ret.profileCheck = none ∧ (awaiting none).ret.number = some ⟨9, .fixed⟩
          ∧ ((awaiting none).setRet { (awaiting none).ret with number := none, profileCheck := some 5#16 }).ret.number = none)
      ∧ (5#16 : Word16) ≠ 0x7D66#16 := by
  refine ⟨by decide +kernel, by decide +kernel, by decide +kernel, by decide +kernel, by decide +kernel,
    ⟨_, test_default_parses.1⟩, by decide +kernel, by decide⟩

theorem witness_PowerUpStartsCold :
    State.reset.supply.state = .off ∧ State.reset.pins.reset = false ∧ (inputs.cfg1 = false ∧ inputs.cfg0 = true)
      ∧ ({ inputs with cfg1 := true, cfg0 := false } : StartInputs).cfg1 = true
      ∧ ({ inputs with cfg1 := true } : StartInputs).cfg0 = ({ inputs with cfg1 := true } : StartInputs).cfg1
      ∧ parseRecord (inputs.memory.take 131) = none
      ∧ (defaultBytes ++ List.replicate 32 0#8).take 131 = defaultBytes ++ List.replicate 32 0#8
      ∧ ({ State.reset.pins with reset := true } : Pins).reset = true := by decide +kernel

def holding : State := setSupplyState .hold .warm busy

/-- In HOLD, with the retained contents of a node settled there. -/
def held0 (s : State) : State := setSupplyState .hold .warm (settle s)

theorem held0_passes (s : State) (h : s.supply.state ≠ .off) (h1 : s.dom.word1 = Config.checkWord1)
    (h2 : s.dom.word2 = Config.checkWord2) (hs : s.dom.seconds = s.dom.secondsCopy) : retentionPasses (held0 s).dom = true :=
  settled_passes s h h1 h2 hs

def unnumbered (p : Profile) (s : State) : State := s.setRet { s.ret with number := none, profile := some p }

theorem witness_WarmReturnKeeps :
    let sharing := held0 sharer
    let chained := held0 (unnumbered Config.defaultProfile run)
    let fixed := held0 (unnumbered { Config.defaultProfile with nodeNumber := 7 } run)
    let lacking := held0 (unloaded bonded12)
    let changed := held0 (unloaded (run.setRet { run.ret with profileCheck := some 5#16 }))
    (holding.supply.state = .hold ∧ inputs.upset = none ∧ holding.ret.number = some ⟨9, .fixed⟩
        ∧ retentionPasses holding.dom = true ∧ holding.ret.inForce = true ∧ holding.ret.bondState = .free
        ∧ holding.ret.activity = .active ∧ recordComplete holding.grade = true ∧ holding.grade.gradeClass = some .b)
      ∧ retentionPasses (inputs.upset.getD (holding.setDom { holding.dom with word1 := 0#16 }).dom) = false
      ∧ retentionPasses (({ inputs with upset := some goodDomain } : StartInputs).upset.getD holding.dom) = false
      ∧ (retentionPasses sharing.dom = true ∧ sharing.ret.number = some ⟨9, .fixed⟩
          ∧ sharing.ret.source = some .externalMemory ∧ (prof sharing).sharing = true)
      ∧ (retentionPasses chained.dom = true ∧ chained.ret.inForce = true ∧ chained.ret.number = none
          ∧ (prof chained).nodeNumber = 0)
      ∧ (retentionPasses fixed.dom = true ∧ fixed.ret.inForce = true ∧ fixed.ret.number = none ∧ (prof fixed).nodeNumber ≠ 0)
      ∧ (retentionPasses lacking.dom = true ∧ lacking.ret.inForce = false ∧ lacking.ret.profileCheck = none
          ∧ lacking.ret.bondState = .bonded)
      ∧ (retentionPasses changed.dom = true ∧ changed.ret.inForce = false ∧ changed.ret.profileCheck = some 5#16
          ∧ 5#16 ≠ crc (recordBody Config.defaultProfile))
      ∧ ((inputs.cfg1 = false ∧ inputs.cfg0 = true) ∧ parseRecord (inputs.memory.take 131) = none
          ∧ parseRecord ((defaultBytes ++ List.replicate 32 0#8).take 131) = some ⟨Config.defaultProfile, 0x7D66#16⟩) := by
  refine ⟨⟨by decide +kernel, rfl, by decide +kernel, witness_DomainSoundKept.2.1, by decide +kernel⟩, ?_, ?_,
    ⟨held0_passes _ (by decide) rfl rfl rfl, by decide +kernel⟩, ⟨held0_passes _ (by decide) rfl rfl rfl, by decide +kernel⟩,
    ⟨held0_passes _ (by decide) rfl rfl rfl, by decide +kernel⟩, ⟨held0_passes _ (by decide) rfl rfl rfl, by decide +kernel⟩,
    ⟨held0_passes _ (by decide) rfl rfl rfl, by decide +kernel, by decide +kernel, by rw [default_check]; decide⟩,
    by decide +kernel, by decide +kernel, ?_⟩
  · simp [retentionPasses, Config.checkWord1, inputs]
  · simp [retentionPasses, Config.checkWord1, goodDomain]
  · rw [show (defaultBytes ++ List.replicate 32 0#8).take 131 = defaultBytes ++ List.replicate 32 0#8 from by decide +kernel]
    exact test_default_parses.2

/-- R182: without a number a warm return waits for the chain; without a profile it asks for one again (straps 10). -/
theorem test_warm_return :
    let start (i : StartInputs) (s : State) : State := startAs .warm i (held0 s)
    (start inputs (unnumbered Config.defaultProfile run)).comm.numbering = some .chainWait
      ∧ (start inputs (unnumbered { Config.defaultProfile with nodeNumber := 7 } run)).comm.held = some 7
      ∧ (start { inputs with cfg1 := true, cfg0 := false } (unloaded bonded12)).comm.state = .awaitingProfile
      ∧ (start { inputs with cfg1 := true, cfg0 := false } (unloaded bonded12)).ret.bondState = .bonded := by decide +kernel

theorem witness_ResetRestarts :
    let s := (setSupplyState .reset .restart busy).setPins { busy.pins with reset := true }
    let kept := setSupplyState .reset .restart (settle bonded12)
    run.supply.state = .run ∧ holding.supply.state = .hold ∧ State.reset.supply.state = .off
      ∧ s.supply = ⟨.reset, .restart⟩ ∧ s.pins.reset = true ∧ retentionPasses s.dom = true ∧ inputs.upset = none
      ∧ s.ret.profileCheck = none ∧ 5#16 ≠ crc (recordBody Config.defaultProfile)
      ∧ (setSupplyState .reset .cold s).supply.kind = .cold
      ∧ retentionPasses (({ inputs with upset := some goodDomain } : StartInputs).upset.getD s.dom) = false
      ∧ kept.supply = ⟨.reset, .restart⟩ ∧ retentionPasses kept.dom = true ∧ kept.pins.reset = false
      ∧ bondStands kept.ret.bondState = true ∧ kept.ret.bondState = .bonded ∧ kept.ret.profileCheck = none
      ∧ (inputs.cfg1 = false ∧ inputs.cfg0 = true) ∧ parseRecord (inputs.memory.take 131) = none
      ∧ parseRecord ((defaultBytes ++ List.replicate 32 0#8).take 131) = some ⟨Config.defaultProfile, 0x7D66#16⟩ :=
  ⟨by decide +kernel, by decide +kernel, by decide +kernel, rfl, rfl, witness_DomainSoundKept.2.1, rfl, by decide +kernel,
    by rw [default_check]; decide, rfl, by simp [retentionPasses, Config.checkWord1, goodDomain], rfl,
    settled_passes bonded12 (by decide) rfl rfl rfl, by decide +kernel, by decide +kernel,
    by decide +kernel, by decide +kernel, by decide +kernel, by decide +kernel,
    by rw [show (defaultBytes ++ List.replicate 32 0#8).take 131 = defaultBytes ++ List.replicate 32 0#8 from by decide +kernel]
       exact test_default_parses.2⟩

theorem witness_SupplyFalls :
    run.supply.state = .run ∧ State.reset.supply.state ≠ .run ∧ holding.supply.state = .hold
      ∧ (setSupplyState .reset .cold run).supply.state = .reset ∧ run.pulse.state = .idle
      ∧ (pulsing 3).pulse.state ≠ .idle := by decide +kernel

end Sys2Proof.Tests
end

section
/-! SUPPORT. The grade unit's lookup and class: the rules of `roundHalfUp`, the order of a valid OCV table, how `socLookup`
descends it (R56), and the class of a metric and of a record (R68, R69). Settles O16 and O19. -/

namespace Sys2Proof.Machine

/-! ## Rounding half up -/

theorem roundHalfUp_mono {m n : Nat} (d : Nat) (h : m ≤ n) : roundHalfUp m d ≤ roundHalfUp n d :=
  Nat.div_le_div_right (by omega)

theorem roundHalfUp_mul_self {d : Nat} (k : Nat) (hd : 0 < d) : roundHalfUp (d * k) d = k := by
  unfold roundHalfUp
  rw [show 2 * (d * k) + d = d + 2 * d * k by ring, Nat.add_mul_div_left _ _ (by omega),
    Nat.div_eq_of_lt (by omega), Nat.zero_add]

/-! ## The order of an OCV table -/

/-- `p` stands below `q` in a table: the voltages strictly ascend, the SOC does not fall (R56). -/
def OcvBelow (p q : OcvPoint) : Prop := p.mv < q.mv ∧ p.soc ≤ q.soc

theorem OcvBelow.trans {p q r : OcvPoint} (hpq : OcvBelow p q) (hqr : OcvBelow q r) : OcvBelow p r :=
  ⟨hpq.1.trans hqr.1, hpq.2.trans hqr.2⟩

theorem ocvOrdered_pairwise {l : List OcvPoint} (h : ocvOrdered l = true) : l.Pairwise OcvBelow := by
  induction l with
  | nil => exact .nil
  | cons p l ih =>
    cases l with
    | nil => exact List.pairwise_singleton _ _
    | cons q rest =>
      obtain ⟨⟨hmv, hsoc⟩, hord⟩ : (p.mv < q.mv ∧ p.soc ≤ q.soc) ∧ ocvOrdered (q :: rest) = true := by
        simpa [ocvOrdered] using h
      have hrest := ih hord
      refine List.pairwise_cons.2 ⟨fun r hr => ?_, hrest⟩
      rcases List.mem_cons.1 hr with rfl | hr
      · exact ⟨hmv, hsoc⟩
      · exact OcvBelow.trans ⟨hmv, hsoc⟩ (List.rel_of_pairwise_cons hrest hr)

theorem profileValid_ocv {p : Profile} (h : profileValid p = true) :
    p.ocv.Pairwise OcvBelow ∧ ∀ q ∈ p.ocv, q.soc ≤ 1000 := by
  simp only [profileValid, measurementRanges, Bool.and_eq_true, List.all_eq_true, decide_eq_true_eq] at h
  obtain ⟨⟨⟨⟨⟨⟨⟨⟨⟨⟨-, hall⟩, hord⟩, -⟩, -⟩, -⟩, -⟩, -⟩, -⟩, -⟩, -⟩ := h
  exact ⟨ocvOrdered_pairwise hord, fun q hq => (hall q hq).2⟩

/-! ## The line between two breakpoints -/

/-- The line from `q` to `r` at a voltage, rounded half up (R56). -/
def ocvLine (q r : OcvPoint) (v : Nat) : Nat := q.soc + roundHalfUp ((v - q.mv) * (r.soc - q.soc)) (r.mv - q.mv)

theorem ocvLine_mono (q r : OcvPoint) {v w : Nat} (h : v ≤ w) : ocvLine q r v ≤ ocvLine q r w :=
  Nat.add_le_add_left (roundHalfUp_mono _ (Nat.mul_le_mul_right _ (by omega))) _

theorem ocvLine_at_end {q r : OcvPoint} (h : OcvBelow q r) : ocvLine q r r.mv = r.soc := by
  obtain ⟨hmv, hsoc⟩ := h
  rw [ocvLine, roundHalfUp_mul_self _ (by omega)]
  omega

theorem ocvLine_le_end {q r : OcvPoint} {v : Nat} (h : OcvBelow q r) (hv : v ≤ r.mv) : ocvLine q r v ≤ r.soc :=
  (ocvLine_mono q r hv).trans_eq (ocvLine_at_end h)

/-! ## The lookup, one equation per case -/

@[simp] theorem socLookup_singleton (q : OcvPoint) (v : Nat) : socLookup [q] v = q.soc := rfl

theorem socLookup_of_le_head {q : OcvPoint} {v : Nat} (l : List OcvPoint) (h : v ≤ q.mv) : socLookup (q :: l) v = q.soc := by
  cases l with
  | nil => rfl
  | cons r rest => simp [socLookup, h]

theorem socLookup_between {q r : OcvPoint} {v : Nat} (rest : List OcvPoint) (hq : q.mv < v) (hr : v < r.mv) :
    socLookup (q :: r :: rest) v = ocvLine q r v := by
  simp [socLookup, ocvLine, hr, Nat.not_le.2 hq]

theorem socLookup_of_next_le {q r : OcvPoint} {v : Nat} (rest : List OcvPoint) (hqr : q.mv < r.mv) (h : r.mv ≤ v) :
    socLookup (q :: r :: rest) v = socLookup (r :: rest) v := by
  simp [socLookup, Nat.not_le.2 (hqr.trans_le h), Nat.not_lt.2 h]

/-! ## The lookup over an ordered table -/

/-- Where a lookup in a table with two breakpoints or more ends up: at the head, on its first line, or in the rest. -/
theorem socLookup_cases {q r : OcvPoint} {rest : List OcvPoint} (h : OcvBelow q r) (v : Nat) :
    (v ≤ q.mv ∧ socLookup (q :: r :: rest) v = q.soc)
      ∨ (q.mv < v ∧ v < r.mv ∧ socLookup (q :: r :: rest) v = ocvLine q r v)
      ∨ (r.mv ≤ v ∧ socLookup (q :: r :: rest) v = socLookup (r :: rest) v) := by
  by_cases hq : v ≤ q.mv
  · exact .inl ⟨hq, socLookup_of_le_head _ hq⟩
  · by_cases hr : v < r.mv
    · exact .inr (.inl ⟨by omega, hr, socLookup_between rest (by omega) hr⟩)
    · exact .inr (.inr ⟨by omega, socLookup_of_next_le rest h.1 (by omega)⟩)

theorem head_soc_le_socLookup {q : OcvPoint} {l : List OcvPoint} (h : (q :: l).Pairwise OcvBelow) (v : Nat) :
    q.soc ≤ socLookup (q :: l) v := by
  induction l generalizing q with
  | nil => exact le_rfl
  | cons r rest ih =>
    obtain ⟨hq, hrest⟩ := List.pairwise_cons.1 h
    have hqr := hq r List.mem_cons_self
    rcases socLookup_cases (rest := rest) hqr v with ⟨-, he⟩ | ⟨-, -, he⟩ | ⟨-, he⟩ <;> rw [he]
    · exact Nat.le_add_right _ _
    · exact hqr.2.trans (ih hrest)

theorem socLookup_le {l : List OcvPoint} {b : Nat} (h : l.Pairwise OcvBelow) (hb : ∀ q ∈ l, q.soc ≤ b) (v : Nat) :
    socLookup l v ≤ b := by
  induction l with
  | nil => exact Nat.zero_le b
  | cons q l ih =>
    cases l with
    | nil => exact hb q List.mem_cons_self
    | cons r rest =>
      obtain ⟨hq, hrest⟩ := List.pairwise_cons.1 h
      have hqr := hq r List.mem_cons_self
      obtain ⟨hqb, hrestb⟩ := List.forall_mem_cons.1 hb
      rcases socLookup_cases (rest := rest) hqr v with ⟨-, he⟩ | ⟨-, hv, he⟩ | ⟨-, he⟩ <;> rw [he]
      · exact hqb
      · exact (ocvLine_le_end hqr hv.le).trans (hrestb r List.mem_cons_self)
      · exact ih hrest hrestb

theorem socLookup_mono {l : List OcvPoint} (h : l.Pairwise OcvBelow) {v w : Nat} (hvw : v ≤ w) :
    socLookup l v ≤ socLookup l w := by
  induction l with
  | nil => exact le_rfl
  | cons q l ih =>
    cases l with
    | nil => exact le_rfl
    | cons r rest =>
      obtain ⟨hq, hrest⟩ := List.pairwise_cons.1 h
      have hqr := hq r List.mem_cons_self
      rcases socLookup_cases (rest := rest) hqr v with ⟨-, hv⟩ | ⟨hqv, hvr, hv⟩ | ⟨hrv, hv⟩
      · exact hv.trans_le (head_soc_le_socLookup h w)
      · rcases socLookup_cases (rest := rest) hqr w with ⟨hwq, -⟩ | ⟨-, -, hw⟩ | ⟨-, hw⟩
        · omega
        · exact hv.trans_le ((ocvLine_mono q r hvw).trans_eq hw.symm)
        · calc socLookup (q :: r :: rest) v = ocvLine q r v := hv
            _ ≤ r.soc := ocvLine_le_end hqr hvr.le
            _ ≤ socLookup (r :: rest) w := head_soc_le_socLookup hrest w
            _ = socLookup (q :: r :: rest) w := hw.symm
      · rw [hv, socLookup_of_next_le rest hqr.1 (hrv.trans hvw)]
        exact ih hrest

/-- From a breakpoint on, the breakpoints before it do not count. -/
theorem socLookup_append {pre suf : List OcvPoint} {q : OcvPoint} {v : Nat}
    (h : (pre ++ q :: suf).Pairwise OcvBelow) (hv : q.mv ≤ v) : socLookup (pre ++ q :: suf) v = socLookup (q :: suf) v := by
  induction pre with
  | nil => rfl
  | cons p pre ih =>
    obtain ⟨hp, hrest⟩ := List.pairwise_cons.1 h
    refine Eq.trans ?_ (ih hrest)
    cases pre with
    | nil => exact socLookup_of_next_le suf (hp q List.mem_cons_self).1 hv
    | cons r pre =>
      have hrq : OcvBelow r q := (List.pairwise_cons.1 hrest).1 q (by simp)
      exact socLookup_of_next_le _ (hp r List.mem_cons_self).1 (hrq.1.le.trans hv)

theorem socLookup_at_breakpoint {l : List OcvPoint} {q : OcvPoint} (h : l.Pairwise OcvBelow) (hq : q ∈ l) :
    socLookup l q.mv = q.soc := by
  obtain ⟨pre, suf, rfl⟩ := List.append_of_mem hq
  rw [socLookup_append h le_rfl, socLookup_of_le_head suf le_rfl]

theorem socLookup_from_last {l : List OcvPoint} {q : OcvPoint} {v : Nat} (h : l.Pairwise OcvBelow)
    (hq : l.getLast? = some q) (hv : q.mv ≤ v) : socLookup l v = q.soc := by
  obtain ⟨pre, rfl⟩ := List.getLast?_eq_some_iff.1 hq
  rw [socLookup_append h hv, socLookup_singleton]

theorem socLookup_below_head {l : List OcvPoint} {q : OcvPoint} {v : Nat} (hq : l.head? = some q) (hv : v ≤ q.mv) :
    socLookup l v = q.soc := by
  obtain ⟨rest, rfl⟩ := List.head?_eq_some_iff.1 hq
  exact socLookup_of_le_head rest hv

/-! ## The class of a metric and of a record -/

theorem sohClass_iff {p : Profile} (v : Nat) (hBA : p.sB ≤ p.sA) (hCB : p.sC ≤ p.sB) :
    (sohClass p v = .a ↔ p.sA ≤ v) ∧ (sohClass p v = .b ↔ v < p.sA ∧ p.sB ≤ v)
      ∧ (sohClass p v = .c ↔ v < p.sB ∧ p.sC ≤ v) ∧ (sohClass p v = .x ↔ v < p.sC) := by
  unfold sohClass
  split_ifs <;> simp only [true_iff, false_iff] <;> omega

theorem risingClass_iff {a b c : Nat} (v : Nat) (hab : a ≤ b) (hbc : b ≤ c) :
    (risingClass a b c v = .a ↔ v ≤ a) ∧ (risingClass a b c v = .b ↔ a < v ∧ v ≤ b)
      ∧ (risingClass a b c v = .c ↔ b < v ∧ v ≤ c) ∧ (risingClass a b c v = .x ↔ c < v) := by
  unfold risingClass
  split_ifs <;> simp only [true_iff, false_iff] <;> omega

@[simp] theorem classRank_worse (k l : GradeClass) : classRank (worse k l) = max (classRank k) (classRank l) := by
  unfold worse
  split_ifs with h
  · exact (Nat.max_eq_right h).symm
  · exact (Nat.max_eq_left (Nat.le_of_not_le h)).symm

theorem worse_eq_or (k l : GradeClass) : worse k l = k ∨ worse k l = l := by
  unfold worse
  split_ifs
  · exact .inr rfl
  · exact .inl rfl

theorem recordComplete_iff (g : GradeRecord) : recordComplete g = true ↔ g.capacity.isSome = true ∧ g.r25c.isSome = true :=
  Bool.and_eq_true_iff

theorem deriveClass_of_incomplete (p : Profile) {g : GradeRecord} (h : recordComplete g = false) : deriveClass p g = none := by
  simp [deriveClass, h]

section Complete

variable {g : GradeRecord} {soh ratio : Nat} (p : Profile) (hc : recordComplete g = true) (hsoh : g.soh = some soh)
  (hratio : g.ratio = some ratio)
include hc hsoh hratio

theorem deriveClass_without_sd (hsd : g.sd = none) :
    deriveClass p g = some (worse (sohClass p soh) (risingClass p.rA p.rB p.rC ratio)) := by
  simp [deriveClass, hc, hsoh, hratio, hsd]

theorem deriveClass_with_sd {d : Nat} (hsd : g.sd = some d) :
    deriveClass p g = some (worse (worse (sohClass p soh) (risingClass p.rA p.rB p.rC ratio))
      (risingClass p.dA p.dB p.dC d)) := by
  simp [deriveClass, hc, hsoh, hratio, hsd]

/-- R69: the class of a complete record is no better than the class of any present metric, and is the class of one. -/
theorem deriveClass_worst : ∃ k, deriveClass p g = some k
    ∧ classRank (sohClass p soh) ≤ classRank k ∧ classRank (risingClass p.rA p.rB p.rC ratio) ≤ classRank k
    ∧ (∀ d, g.sd = some d → classRank (risingClass p.dA p.dB p.dC d) ≤ classRank k)
    ∧ (k = sohClass p soh ∨ k = risingClass p.rA p.rB p.rC ratio
        ∨ ∃ d, g.sd = some d ∧ k = risingClass p.dA p.dB p.dC d) := by
  have htwo := worse_eq_or (sohClass p soh) (risingClass p.rA p.rB p.rC ratio)
  cases hsd : g.sd with
  | none =>
    refine ⟨_, deriveClass_without_sd p hc hsoh hratio hsd, by simp, by simp, by simp, ?_⟩
    exact htwo.imp_right .inl
  | some d =>
    refine ⟨_, deriveClass_with_sd p hc hsoh hratio hsd, by simp, by simp, by simp, ?_⟩
    rcases worse_eq_or (worse (sohClass p soh) (risingClass p.rA p.rB p.rC ratio)) (risingClass p.dA p.dB p.dC d)
      with hk | hk <;> rw [hk]
    · exact htwo.imp_right .inl
    · exact .inr (.inr ⟨d, rfl, rfl⟩)

end Complete

/-! ## The obligations -/

/-- Settles O16, by the order of a valid table: the lookup at or above a breakpoint forgets the breakpoints before it. -/
theorem socLookupFollowsTable : Obligations.SocLookupFollowsTable := by
  intro p hp
  obtain ⟨hord, hsoc⟩ := profileValid_ocv hp
  refine ⟨fun v w hvw => ⟨socLookup_mono hord hvw, socLookup_le hord hsoc w⟩,
    fun q hq => socLookup_at_breakpoint hord hq, fun v q hq hv => socLookup_below_head hq hv,
    fun v q hq hv => socLookup_from_last hord hq hv, ?_⟩
  intro pre suf q r v htable hq hr
  rw [htable] at hord ⊢
  exact (socLookup_append hord hq.le).trans (socLookup_between suf hq hr)

/-- Settles O19, from the thresholds of each metric and the rank of the worse of two classes. -/
theorem classIsWorst : Obligations.ClassIsWorst := by
  refine ⟨fun p v hBA hCB => sohClass_iff v hBA hCB, fun a b c v hab hbc => risingClass_iff v hab hbc,
    fun p g => ⟨?_, ?_⟩⟩
  · intro habsent
    refine deriveClass_of_incomplete p (Bool.eq_false_iff.2 fun hc => ?_)
    obtain ⟨hcap, hr25c⟩ := (recordComplete_iff g).1 hc
    rcases habsent with h | h
    · simp [h] at hcap
    · simp [h] at hr25c
  · intro soh ratio hcap hr25c hsoh hratio
    exact deriveClass_worst p ((recordComplete_iff g).2 ⟨hcap, hr25c⟩) hsoh hratio

end Sys2Proof.Machine
end

section
/-! SUPPORT. The peer table's score and candidates: the two differences of R126, the score in each case of what is present and
its symmetry in the two nodes (R126, R127), the tests of R129 and the candidate order of R130. Settles O43. -/

namespace Sys2Proof.Machine

/-! ## The differences -/

theorem absDiff_eq (a b : Nat) : absDiff a b = max a b - min a b := by
  unfold absDiff
  omega

theorem absDiff_comm (a b : Nat) : absDiff a b = absDiff b a :=
  Nat.add_comm _ _

theorem relativeDiff_eq (a b : Nat) : relativeDiff a b = (max a b - min a b) * 1000 / max a b := by
  rw [relativeDiff, absDiff_eq]

theorem relativeDiff_comm (a b : Nat) : relativeDiff a b = relativeDiff b a := by
  rw [relativeDiff, relativeDiff, absDiff_comm, Nat.max_comm]

/-- A difference never exceeds the larger of the two values, so its share stays within 1000 ‰. -/
theorem relativeDiff_le (a b : Nat) : relativeDiff a b ≤ 1000 := by
  have hle : absDiff a b ≤ max a b := absDiff_eq a b ▸ Nat.sub_le _ _
  exact Nat.div_le_of_le_mul (Nat.mul_le_mul_right 1000 hle)

/-! ## The score, one rule per case of what is present -/

section Score

variable (p : Profile) (own : GradeRecord)

theorem scoreOf_eq_none_iff (c r d : Option Nat) :
    scoreOf p own c r d = none ↔ own.capacity = none ∨ own.r25c = none ∨ c = none ∨ r = none := by
  unfold scoreOf
  split
  case h_1 hc1 hr1 => simp [hc1, hr1]
  case h_2 habsent =>
    refine iff_of_true rfl ?_
    by_contra! hpresent
    obtain ⟨hc1, hr1, hc2, hr2⟩ := hpresent
    obtain ⟨c1, hc1⟩ := Option.ne_none_iff_exists'.1 hc1
    obtain ⟨r1, hr1⟩ := Option.ne_none_iff_exists'.1 hr1
    obtain ⟨c2, hc2⟩ := Option.ne_none_iff_exists'.1 hc2
    obtain ⟨r2, hr2⟩ := Option.ne_none_iff_exists'.1 hr2
    exact habsent c1 r1 c2 r2 hc1 hr1 hc2 hr2

theorem scoreOf_of_incomplete (c r d : Option Nat) (h : recordComplete own = false) : scoreOf p own c r d = none := by
  rw [scoreOf_eq_none_iff]
  by_contra! hpresent
  obtain ⟨hc, hr, -⟩ := hpresent
  have hcomplete := (recordComplete_iff own).2 ⟨Option.isSome_iff_ne_none.2 hc, Option.isSome_iff_ne_none.2 hr⟩
  simp [h] at hcomplete

variable {own} {c1 r1 : Nat} (hc1 : own.capacity = some c1) (hr1 : own.r25c = some r1) (c2 r2 : Nat)
include hc1 hr1

theorem scoreOf_with_sd {d1 : Nat} (hd1 : own.sd = some d1) (d2 : Nat) :
    scoreOf p own (some c2) (some r2) (some d2) =
      some (min 65535 (p.wC * relativeDiff c1 c2 + p.wR * relativeDiff r1 r2 + p.wD * absDiff d1 d2)) := by
  simp [scoreOf, hc1, hr1, hd1, Config.max16]

theorem scoreOf_without_sd {d : Option Nat} (h : own.sd = none ∨ d = none) :
    scoreOf p own (some c2) (some r2) d =
      some (min 65535 (p.wC * relativeDiff c1 c2 + p.wR * relativeDiff r1 r2)) := by
  rcases h with hd1 | rfl
  · simp [scoreOf, hc1, hr1, hd1, Config.max16]
  · simp [scoreOf, hc1, hr1, Config.max16]

end Score

/-- R127: with one profile's weights, the two nodes of a pair compute the same score from the same two grades. -/
theorem scoreOf_swap (p : Profile) (own : GradeRecord) (c r d : Option Nat) :
    scoreOf p own c r d = scoreOf p { own with capacity := c, r25c := r, sd := d } own.capacity own.r25c own.sd := by
  by_cases habsent : own.capacity = none ∨ own.r25c = none ∨ c = none ∨ r = none
  · have hswapped : c = none ∨ r = none ∨ own.capacity = none ∨ own.r25c = none := by tauto
    rw [(scoreOf_eq_none_iff p own c r d).2 habsent, (scoreOf_eq_none_iff p _ _ _ _).2 hswapped]
  · simp only [not_or, ← ne_eq, Option.ne_none_iff_exists'] at habsent
    obtain ⟨⟨c1, hc1⟩, ⟨r1, hr1⟩, ⟨c2, rfl⟩, ⟨r2, rfl⟩⟩ := habsent
    rw [hc1, hr1]
    by_cases hsd : own.sd = none ∨ d = none
    · rw [scoreOf_without_sd p hc1 hr1 c2 r2 hsd, scoreOf_without_sd p rfl rfl c1 r1 hsd.symm,
        relativeDiff_comm c1, relativeDiff_comm r1]
    · simp only [not_or, ← ne_eq, Option.ne_none_iff_exists'] at hsd
      obtain ⟨⟨d1, hd1⟩, ⟨d2, rfl⟩⟩ := hsd
      rw [hd1, scoreOf_with_sd p hc1 hr1 c2 r2 hd1 d2, scoreOf_with_sd p rfl rfl c1 r1 rfl d1,
        relativeDiff_comm c1, relativeDiff_comm r1, absDiff_comm d1]

/-! ## Eligibility and the candidate order -/

section Candidates

variable (p : Profile) (own : GradeRecord)

theorem eligible_iff (e : PeerEntry) :
    eligible p own e = true ↔ e.chemistry = p.chemistry ∧ e.series = p.series ∧ e.gradeClass.isSome = true
      ∧ e.gradeClass = own.gradeClass ∧ e.gradeClass ≠ some .x ∧ ∃ x, e.score = some x ∧ x ≤ p.matchLimit := by
  cases hscore : e.score with
  | none => simp [eligible, hscore]
  | some x => simp [eligible, hscore, and_assoc]

theorem eligible_scored_of_incomplete (e : PeerEntry) (h : recordComplete own = false) :
    eligible p own (scored p own e) = false := by
  rw [Bool.eq_false_iff, ne_eq, eligible_iff]
  rintro ⟨-, -, -, -, -, x, hx, -⟩
  have hnone : (scored p own e).score = none := scoreOf_of_incomplete p own _ _ _ h
  rw [hnone] at hx
  cases hx

theorem eligible_of_own_x (e : PeerEntry) (h : own.gradeClass = some .x) : eligible p own e = false := by
  rw [Bool.eq_false_iff, ne_eq, eligible_iff]
  rintro ⟨-, -, -, hclass, hx, -⟩
  exact hx (hclass.trans h)

theorem mem_candidates_iff (t : PeerTable) (e : PeerEntry) :
    e ∈ candidates p own t ↔ e ∈ t.entries ∧ eligible p own e = true ∧ e.bondState = .free ∧ e.mark = none := by
  simp [candidates, and_assoc]

theorem candidates_sublist (t : PeerTable) : (candidates p own t).Sublist t.entries :=
  List.filter_sublist

end Candidates

/-! ## The obligation -/

/-- Settles O43, from the score's rule in each case of what is present, its symmetry, and what `eligible` and `candidates`
test of an entry. -/
theorem scoresAndCandidates : Obligations.ScoresAndCandidates := by
  refine ⟨fun p own c r d => ⟨scoreOf_eq_none_iff p own c r d, ?_, scoreOf_swap p own c r d⟩,
    fun p own t e => ⟨eligible_iff p own e, eligible_scored_of_incomplete p own e, eligible_of_own_x p own e,
      mem_candidates_iff p own t e, candidates_sublist p own t⟩⟩
  rintro c1 r1 c2 r2 hc1 hr1 rfl rfl
  simp only [← relativeDiff_eq]
  simp only [← absDiff_eq]
  refine ⟨?_, scoreOf_without_sd p hc1 hr1 c2 r2, relativeDiff_le c1 c2, relativeDiff_le r1 r2⟩
  rintro d1 d2 hd1 rfl
  exact scoreOf_with_sd p hc1 hr1 c2 r2 hd1 d2

end Sys2Proof.Machine
end

section
/-! SUPPORT. The table order as a linear order on keys, and what every operation of the peer table leaves in that order (R122,
R128): the rules of `insertEntry`, `sortEntries`, admission, marks and the pin. -/

namespace Sys2Proof.Machine

/-! ## The order of two entries -/

/-- The key of an entry in the table order: its score, an absent one behind all others, then its number (R128). -/
def orderKey (e : PeerEntry) : WithTop Nat ×ₗ Nat := toLex (e.score.elim ⊤ fun x => (x : WithTop Nat), e.number)

theorem standsAhead_iff (a b : PeerEntry) : standsAhead a b = true ↔ orderKey a < orderKey b := by
  cases ha : a.score <;> cases hb : b.score <;> simp [standsAhead, orderKey, Prod.Lex.lt_iff, ha, hb]

theorem standsAhead_trans {a b c : PeerEntry} (hab : standsAhead a b = true) (hbc : standsAhead b c = true) :
    standsAhead a c = true := by
  rw [standsAhead_iff] at *
  exact hab.trans hbc

theorem standsAhead_total {a b : PeerEntry} (hn : a.number ≠ b.number) (h : standsAhead a b = false) :
    standsAhead b a = true := by
  rw [← Bool.not_eq_true, standsAhead_iff, not_lt] at h
  rw [standsAhead_iff]
  refine lt_of_le_of_ne h fun heq => hn ?_
  exact (congrArg (fun k => (ofLex k).2) heq).symm

/-- The table order reads the score and the number of an entry only. -/
theorem standsAhead_congr {a a' b b' : PeerEntry} (has : a'.score = a.score) (han : a'.number = a.number)
    (hbs : b'.score = b.score) (hbn : b'.number = b.number) : standsAhead a' b' = standsAhead a b := by
  simp [standsAhead, has, han, hbs, hbn]

/-! ## Entries in order -/

/-- The entries of a table in its order, no two of one number: the second and the third part of `TableOrdered`. -/
def InOrder (l : List PeerEntry) : Prop :=
  (l.map (fun e => e.number)).Nodup ∧ l.Pairwise (fun a b => standsAhead a b = true)

theorem tableOrdered_iff (s : State) :
    TableOrdered s ↔ s.table.entries.length ≤ Config.tablePlaces ∧ InOrder s.table.entries := Iff.rfl

theorem InOrder.sublist {l l' : List PeerEntry} (h : InOrder l) (hs : l'.Sublist l) : InOrder l' :=
  ⟨h.1.sublist (hs.map _), h.2.sublist hs⟩

/-- A change of the entries that keeps score and number keeps the order. -/
theorem InOrder.map {l : List PeerEntry} (h : InOrder l) {f : PeerEntry → PeerEntry} (hn : ∀ e, (f e).number = e.number)
    (hs : ∀ e, (f e).score = e.score) : InOrder (l.map f) := by
  refine ⟨?_, List.pairwise_map.2 (h.2.imp fun hab => ?_)⟩
  · have hnumbers : (l.map f).map (fun e => e.number) = l.map (fun e => e.number) := by simp [hn]
    exact hnumbers ▸ h.1
  · rwa [standsAhead_congr (hs _) (hn _) (hs _) (hn _)]

theorem insertEntry_perm (e : PeerEntry) (l : List PeerEntry) : (insertEntry e l).Perm (e :: l) := by
  induction l with
  | nil => exact .refl _
  | cons x xs ih =>
    rw [insertEntry]
    split_ifs
    · exact .refl _
    · exact (ih.cons x).trans (.swap e x xs)

theorem insertEntry_length (e : PeerEntry) (l : List PeerEntry) : (insertEntry e l).length = l.length + 1 :=
  (insertEntry_perm e l).length_eq

theorem mem_insertEntry {e x : PeerEntry} {l : List PeerEntry} : x ∈ insertEntry e l ↔ x = e ∨ x ∈ l :=
  (insertEntry_perm e l).mem_iff.trans List.mem_cons

theorem InOrder.insertEntry {l : List PeerEntry} (h : InOrder l) {e : PeerEntry} (hnew : ∀ x ∈ l, x.number ≠ e.number) :
    InOrder (insertEntry e l) := by
  constructor
  · refine (((insertEntry_perm e l).map _).nodup_iff).2 (List.nodup_cons.2 ⟨fun hmem => ?_, h.1⟩)
    obtain ⟨x, hx, hnumber⟩ := List.mem_map.1 hmem
    exact hnew x hx hnumber
  · obtain ⟨-, hpair⟩ := h
    induction l with
    | nil => exact List.pairwise_singleton _ _
    | cons x xs ih =>
      obtain ⟨hx, hxs⟩ := List.pairwise_cons.1 hpair
      obtain ⟨hne, hnewxs⟩ := List.forall_mem_cons.1 hnew
      rw [Machine.insertEntry]
      split_ifs with hahead
      · exact List.pairwise_cons.2 ⟨List.forall_mem_cons.2 ⟨hahead, fun y hy => standsAhead_trans hahead (hx y hy)⟩, hpair⟩
      · have hxe : standsAhead x e = true := standsAhead_total hne.symm (Bool.eq_false_iff.2 hahead)
        refine List.pairwise_cons.2 ⟨fun y hy => ?_, ih hnewxs hxs⟩
        rcases mem_insertEntry.1 hy with rfl | hy
        · exact hxe
        · exact hx y hy

theorem sortEntries_perm (l : List PeerEntry) : (sortEntries l).Perm l := by
  induction l with
  | nil => exact .refl _
  | cons x xs ih => exact (insertEntry_perm x _).trans (ih.cons x)

theorem sortEntries_inOrder {l : List PeerEntry} (h : (l.map (fun e => e.number)).Nodup) : InOrder (sortEntries l) := by
  induction l with
  | nil => exact ⟨List.nodup_nil, List.Pairwise.nil⟩
  | cons x xs ih =>
    obtain ⟨hx, hxs⟩ := List.nodup_cons.1 h
    refine (ih hxs).insertEntry fun y hy hnumber => hx ?_
    exact List.mem_map.2 ⟨y, (sortEntries_perm xs).mem_iff.1 hy, hnumber⟩

/-! ## The entry of a number -/

theorem entryOf_number {t : PeerTable} {n : Nat} {e : PeerEntry} (h : entryOf t n = some e) : e.number = n := by
  simpa using List.find?_some h

theorem entryOf_mem {t : PeerTable} {n : Nat} {e : PeerEntry} (h : entryOf t n = some e) : e ∈ t.entries :=
  List.mem_of_find?_eq_some h

theorem entryOf_eq_none_iff {t : PeerTable} {n : Nat} : entryOf t n = none ↔ ∀ e ∈ t.entries, e.number ≠ n := by
  simp [entryOf]

theorem withoutEntry_sublist (l : List PeerEntry) (n : Nat) : (withoutEntry l n).Sublist l := List.filter_sublist

theorem mem_withoutEntry {l : List PeerEntry} {n : Nat} {e : PeerEntry} :
    e ∈ withoutEntry l n ↔ e ∈ l ∧ e.number ≠ n := by
  simp [withoutEntry]

/-- With the entry of a number gone there is one entry less at least. -/
theorem withoutEntry_length_lt {l : List PeerEntry} {e : PeerEntry} (h : e ∈ l) :
    (withoutEntry l e.number).length < l.length := by
  refine lt_of_le_of_ne (withoutEntry_sublist l _).length_le fun hlen => ?_
  have hmem : e ∈ withoutEntry l e.number := ((withoutEntry_sublist l e.number).eq_of_length hlen).symm ▸ h
  exact (mem_withoutEntry.1 hmem).2 rfl

theorem worstUnpinned_mem {t : PeerTable} {w : PeerEntry} (h : worstUnpinned t = some w) : w ∈ t.entries :=
  List.mem_reverse.1 (List.mem_of_find?_eq_some h)

/-! ## The operations of the table -/

/-- The parts of `TableOrdered` as a fact about the table. -/
def PeerTable.Ordered (t : PeerTable) : Prop := t.entries.length ≤ Config.tablePlaces ∧ InOrder t.entries

theorem PeerTable.Ordered.sublist {t u : PeerTable} (h : t.Ordered) (hs : u.entries.Sublist t.entries) : u.Ordered :=
  ⟨hs.length_le.trans h.1, h.2.sublist hs⟩

theorem PeerTable.Ordered.empty (pin : Option Nat) : (⟨[], pin⟩ : PeerTable).Ordered :=
  ⟨Nat.zero_le _, List.nodup_nil, .nil⟩

theorem unpin_ordered (p : Profile) (now : Nat) {t : PeerTable} (h : t.Ordered) : (unpin p now t).Ordered :=
  h.sublist List.filter_sublist

theorem map_ordered {t : PeerTable} (h : t.Ordered) {f : PeerEntry → PeerEntry} (hn : ∀ e, (f e).number = e.number)
    (hs : ∀ e, (f e).score = e.score) : ({ t with entries := t.entries.map f } : PeerTable).Ordered :=
  ⟨(List.length_map f).trans_le h.1, h.2.map hn hs⟩

theorem placeMark_ordered (p : Profile) (now n : Nat) (r : DeclineReason) {t : PeerTable} (h : t.Ordered) :
    (placeMark p now n r t).Ordered :=
  map_ordered h (fun e => by split_ifs <;> rfl) (fun e => by split_ifs <;> rfl)

theorem markAndUnpin_ordered (p : Profile) (now n : Nat) (r : DeclineReason) {t : PeerTable} (h : t.Ordered) :
    (markAndUnpin p now n r t).Ordered := unpin_ordered p now (placeMark_ordered p now n r h)

theorem endMark_number (p : Profile) (now : Nat) (e : PeerEntry) : (endMark p now e).number = e.number := by
  unfold endMark
  split
  · split_ifs <;> rfl
  · rfl

theorem endMark_score (p : Profile) (now : Nat) (e : PeerEntry) : (endMark p now e).score = e.score := by
  unfold endMark
  split
  · split_ifs <;> rfl
  · rfl

theorem rescoreTable_ordered (p : Profile) (own : GradeRecord) {t : PeerTable} (h : t.Ordered) :
    (rescoreTable p own t).Ordered := by
  constructor
  · exact ((sortEntries_perm _).length_eq.trans (List.length_map _)).trans_le h.1
  · refine sortEntries_inOrder ?_
    rw [List.map_map]
    exact h.2.1

/-- A newcomer in the place of the entries of one number. -/
theorem replace_ordered {t : PeerTable} (h : t.Ordered) {old e : PeerEntry} (hold : old ∈ t.entries)
    (hnew : ∀ x ∈ t.entries, x.number = e.number → x.number = old.number) :
    ({ t with entries := insertEntry e (withoutEntry t.entries old.number) } : PeerTable).Ordered := by
  constructor
  · have hlt := withoutEntry_length_lt hold
    have hle := h.1
    simp only [insertEntry_length]
    omega
  · refine (h.2.sublist (withoutEntry_sublist _ _)).insertEntry fun x hx hnumber => ?_
    obtain ⟨hxt, hne⟩ := mem_withoutEntry.1 hx
    exact hne (hnew x hxt hnumber)

theorem hearAnnounce_ordered (p : Profile) (own : GradeRecord) (now : Nat) (a : AnnounceFields) {t : PeerTable}
    (h : t.Ordered) : (hearAnnounce p own now a t).Ordered := by
  unfold hearAnnounce
  split
  case h_1 old hold =>
    have hnumber := entryOf_number hold
    have hreplaced := replace_ordered h (e := entryFrom p own now a (markAfterAnnounce old a)) (entryOf_mem hold)
      fun x _ hx => hx.trans hnumber.symm
    rwa [hnumber] at hreplaced
  case h_2 hnone =>
    have hnew := entryOf_eq_none_iff.1 hnone
    dsimp only
    split_ifs with hroom
    · exact ⟨(insertEntry_length _ _).trans_le hroom, h.2.insertEntry hnew⟩
    · split
      · rename_i w hw
        split_ifs
        · exact replace_ordered h (worstUnpinned_mem hw) fun x hx hnumber => absurd hnumber (hnew x hx)
        · exact h
      · exact h

end Sys2Proof.Machine
end

section
/-! SUPPORT. The link: what each operation does to the run counts (R77), to the lengths of the FIFO and the queue and to the
number of queued ANNOUNCEs (R87, R95, R96). -/

namespace Sys2Proof.Machine

/-! ## The run counts -/

@[simp] theorem huntAgain_recessiveRun (r : Receiver) : (huntAgain r).recessiveRun = r.recessiveRun := rfl
@[simp] theorem huntAgain_dominantRun (r : Receiver) : (huntAgain r).dominantRun = r.dominantRun := rfl
@[simp] theorem huntAgain_state (r : Receiver) : (huntAgain r).state = .hunt := rfl
@[simp] theorem openFrame_recessiveRun (r : Receiver) : (openFrame r).recessiveRun = r.recessiveRun := rfl
@[simp] theorem openFrame_dominantRun (r : Receiver) : (openFrame r).dominantRun = r.dominantRun := rfl

/-- Two receivers with the same run counts. -/
def SameRuns (r r' : Receiver) : Prop := r'.recessiveRun = r.recessiveRun ∧ r'.dominantRun = r.dominantRun

theorem takeContentBit_sameRuns (held : Option Nat) (r : Receiver) (b : Bool) : SameRuns r (takeContentBit held r b) := by
  unfold takeContentBit
  dsimp only
  split_ifs <;> exact ⟨rfl, rfl⟩

theorem frameBit_sameRuns (held : Option Nat) (r : Receiver) (b : Bool) : SameRuns r (frameBit held r b).1 := by
  unfold frameBit
  split_ifs
  all_goals first
    | exact ⟨rfl, rfl⟩
    | exact takeContentBit_sameRuns held _ b

theorem huntBit_sameRuns (r : Receiver) (b : Bool) : SameRuns (countBit r b) (huntBit r b) := by
  unfold huntBit
  dsimp only
  split_ifs <;> exact ⟨rfl, rfl⟩

/-- Outside OFF a bit counts, whatever else the receiver does with it (R77). -/
theorem receiverBit_sameRuns (held : Option Nat) {r : Receiver} (b : Bool) (h : r.state ≠ .off) :
    SameRuns (countBit r b) (receiverBit held r b).1 := by
  unfold receiverBit
  split
  case h_1 hoff => exact absurd hoff h
  case h_2 => exact huntBit_sameRuns r b
  case h_3 => exact frameBit_sameRuns held _ b
  case h_4 => exact frameBit_sameRuns held _ b

/-- One of the two run counts is 0: `RunsApart` as a fact about the receiver. -/
def Receiver.Apart (r : Receiver) : Prop := r.recessiveRun = 0 ∨ r.dominantRun = 0

theorem SameRuns.apart {r r' : Receiver} (h : SameRuns r r') (ha : r.Apart) : r'.Apart := by
  unfold Receiver.Apart
  rwa [h.1, h.2]

theorem countBit_apart (r : Receiver) (b : Bool) : (countBit r b).Apart := by
  cases b
  · exact .inl rfl
  · exact .inr rfl

/-- The receiver after a bit, with the bus reset's return to HUNT (R78). -/
def receiverAfter (held : Option Nat) (r : Receiver) (b : Bool) : Receiver :=
  if (receiverBit held r b).1.dominantRun = Config.busResetBits then huntAgain (receiverBit held r b).1
  else (receiverBit held r b).1

theorem receiverAfter_sameRuns (held : Option Nat) {r : Receiver} (b : Bool) (h : r.state ≠ .off) :
    SameRuns (countBit r b) (receiverAfter held r b) := by
  unfold receiverAfter
  split_ifs
  · exact receiverBit_sameRuns held b h
  · exact receiverBit_sameRuns held b h

theorem sampleBit_off (held : Option Nat) (stuckAt : Nat) {l : Link} (b : Bool) (h : l.receiver.state = .off) :
    sampleBit held stuckAt l b = l := by
  simp [sampleBit, h]

/-- One bit on the line, where the receiver is not OFF. -/
theorem sampleBit_on (held : Option Nat) (stuckAt : Nat) {l : Link} (b : Bool) (h : l.receiver.state ≠ .off) :
    sampleBit held stuckAt l b = { l with
      receiver := receiverAfter held l.receiver b
      closed := l.closed ++ (match (receiverBit held l.receiver b).2 with
        | some c => [⟨c, completesAt l.attempt b⟩]
        | none => [])
      resetDue := l.resetDue || decide ((countBit l.receiver b).dominantRun = Config.busResetBits)
      stuckDue := l.stuckDue || decide ((countBit l.receiver b).dominantRun = stuckAt)
      attempt := l.attempt.map (fun a => attemptBit a b) } := by
  have hruns := (receiverAfter_sameRuns held b h).2
  rw [← hruns, sampleBit, if_neg h]
  rfl

@[simp] theorem sampleBits_nil (held : Option Nat) (stuckAt : Nat) (l : Link) : sampleBits held stuckAt l [] = l := rfl

theorem sampleBits_cons (held : Option Nat) (stuckAt : Nat) (l : Link) (b : Bool) (bits : List Bool) :
    sampleBits held stuckAt l (b :: bits) = sampleBits held stuckAt (sampleBit held stuckAt l b) bits := rfl

theorem sampleBits_append (held : Option Nat) (stuckAt : Nat) (l : Link) (xs ys : List Bool) :
    sampleBits held stuckAt l (xs ++ ys) = sampleBits held stuckAt (sampleBits held stuckAt l xs) ys :=
  List.foldl_append

/-! ## The places of the FIFO and the queue -/

/-- The queued ANNOUNCEs. -/
def announces (q : List Frame) : List Frame := q.filter (fun f => f.kind == kindAnnounce)

/-- The parts of `LinkInLimits` as a fact about the link. -/
def Link.InLimits (l : Link) : Prop :=
  l.fifo.length ≤ Config.queuePlaces ∧ l.queue.length ≤ Config.queuePlaces ∧ (announces l.queue).length ≤ 1

/-- A change of the link that keeps its limits and its run counts apart. -/
structure LinkKept (l l' : Link) : Prop where
  limits : l.InLimits → l'.InLimits
  apart : l.receiver.Apart → l'.receiver.Apart

theorem LinkKept.refl (l : Link) : LinkKept l l := ⟨id, id⟩

theorem LinkKept.trans {l l' l'' : Link} (h : LinkKept l l') (h' : LinkKept l' l'') : LinkKept l l'' :=
  ⟨h'.limits ∘ h.limits, h'.apart ∘ h.apart⟩

/-- The last operation first: its lemma fixes the link in between. -/
theorem LinkKept.via {l l' l'' : Link} (h' : LinkKept l' l'') (h : LinkKept l l') : LinkKept l l'' := h.trans h'

/-- A change that leaves receiver, FIFO and queue alone. -/
theorem LinkKept.of_eq {l l' : Link} (hr : l'.receiver = l.receiver) (hf : l'.fifo = l.fifo) (hq : l'.queue = l.queue) :
    LinkKept l l' := by
  constructor
  · unfold Link.InLimits
    rw [hf, hq]
    exact id
  · rw [hr]
    exact id

/-- A change that takes frames out of the queue at most. -/
theorem LinkKept.of_sublist {l l' : Link} (hr : l'.receiver = l.receiver) (hf : l'.fifo = l.fifo)
    (hq : l'.queue.Sublist l.queue) : LinkKept l l' := by
  refine ⟨fun ⟨h1, h2, h3⟩ => ⟨hf ▸ h1, hq.length_le.trans h2, (hq.filter _).length_le.trans h3⟩, ?_⟩
  rw [hr]
  exact id

@[simp] theorem transmitterFollows_receiver (l : Link) : (transmitterFollows l).receiver = l.receiver := by
  unfold transmitterFollows
  split
  · split_ifs <;> rfl
  · split_ifs <;> rfl
  · rfl
  · rfl

@[simp] theorem transmitterFollows_fifo (l : Link) : (transmitterFollows l).fifo = l.fifo := by
  unfold transmitterFollows
  split
  · split_ifs <;> rfl
  · split_ifs <;> rfl
  · rfl
  · rfl

theorem LinkKept.follows {l l' : Link} (h : LinkKept l l') : LinkKept l (transmitterFollows l') :=
  h.trans (.of_eq (by simp) (by simp) (by simp))

theorem withoutAnnounce_sublist (t : TransmitterState) (q : List Frame) : (withoutAnnounce t q).Sublist q := by
  unfold withoutAnnounce
  split
  · exact List.eraseP_sublist.cons_cons _
  · exact List.eraseP_sublist

theorem eraseNewest_sublist (p : Frame → Bool) (q : List Frame) : (eraseNewest p q).Sublist q := by
  have h := (List.eraseP_sublist (p := p) (l := q.reverse)).reverse
  rwa [List.reverse_reverse] at h

/-- A frame that is not a second ANNOUNCE leaves one ANNOUNCE at most. -/
theorem announces_append_length {q : List Frame} {f : Frame} (h : (announces q).length ≤ 1)
    (hf : f.kind = kindAnnounce → announces q = []) : (announces (q ++ [f])).length ≤ 1 := by
  by_cases hk : f.kind = kindAnnounce
  · have hnone := hf hk
    simp only [announces] at hnone ⊢
    simp [hnone, hk]
  · simpa [announces, hk] using h

/-- What an offer leaves of the queue: the queue itself, or a part of it with the frame at the end, which is then no second
ANNOUNCE (R95, R96, R99). -/
theorem queueAfterOffer_cases (l : Link) (f : Frame) :
    queueAfterOffer l f = l.queue ∨ ∃ q, queueAfterOffer l f = q ++ [f] ∧ q.Sublist l.queue
      ∧ q.length < Config.queuePlaces ∧ (f.kind = kindAnnounce → announces q = []) := by
  unfold queueAfterOffer
  split_ifs with _ hdup hroom hdropped
  · exact .inl rfl
  · exact .inl rfl
  · refine .inr ⟨l.queue, rfl, List.Sublist.refl _, hroom, fun hk => ?_⟩
    have hnone : ∀ g ∈ l.queue, ¬ (g.kind == kindAnnounce) = true := fun g hg hgk =>
      hdup (by simp only [duplicateOf, hk, Bool.or_eq_true, Bool.and_eq_true, List.any_eq_true]
               exact .inl (.inl ⟨rfl, g, hg, hgk⟩))
    exact List.filter_eq_nil_iff.2 hnone
  · exact .inl rfl
  · dsimp only
    split_ifs with hplace
    · refine .inr ⟨_, rfl, withoutAnnounce_sublist _ _, hplace, fun hk => ?_⟩
      simp [hk] at hdropped
    · exact .inl rfl

theorem offerFrame_kept (l : Link) (f : Frame) : LinkKept l (offerFrame l f) := by
  unfold offerFrame
  refine .follows ⟨fun ⟨h1, h2, h3⟩ => ?_, id⟩
  rcases queueAfterOffer_cases l f with hq | ⟨q, hq, hsub, hlen, hann⟩
  · exact ⟨h1, hq ▸ h2, hq ▸ h3⟩
  · refine ⟨h1, ?_, ?_⟩ <;> simp only [hq]
    · simpa using hlen
    · exact announces_append_length ((hsub.filter _).length_le.trans h3) hann

theorem withdrawFrame_kept (l : Link) (p : Frame → Bool) : LinkKept l (withdrawFrame l p) := by
  unfold withdrawFrame
  refine .follows (.of_sublist rfl rfl ?_)
  dsimp only
  split
  · rename_i hq
    rw [hq]
    exact (eraseNewest_sublist p _).cons_cons _
  · exact eraseNewest_sublist p _

theorem afterHoldoff_kept (l : Link) : LinkKept l (afterHoldoff l) := .of_eq rfl rfl rfl

@[simp] theorem startHoldoff_receiver (n : Nat) (l : Link) : (startHoldoff n l).receiver = l.receiver := by
  unfold startHoldoff; split_ifs <;> rfl
@[simp] theorem startHoldoff_fifo (n : Nat) (l : Link) : (startHoldoff n l).fifo = l.fifo := by
  unfold startHoldoff; split_ifs <;> rfl
@[simp] theorem startHoldoff_queue (n : Nat) (l : Link) : (startHoldoff n l).queue = l.queue := by
  unfold startHoldoff; split_ifs <;> rfl

theorem startHoldoff_kept (n : Nat) (l : Link) : LinkKept l (startHoldoff n l) := .of_eq (by simp) (by simp) (by simp)

theorem offerFifo_kept (l : Link) (content : List Byte) : LinkKept l (offerFifo l content) := by
  unfold offerFifo
  split_ifs with hroom
  · refine ⟨fun ⟨_, h2, h3⟩ => ⟨?_, h2, h3⟩, id⟩
    simpa using hroom
  · exact .of_eq rfl rfl rfl

theorem dropHead_kept (l : Link) : LinkKept l (dropHead l) := .of_sublist rfl rfl (List.tail_sublist _)

theorem resetLink_kept (l : Link) : LinkKept l (resetLink l) :=
  ⟨fun _ => ⟨Nat.zero_le _, Nat.zero_le _, Nat.zero_le _⟩, id⟩

theorem muteLink_kept (n : Nat) (l : Link) : LinkKept l (muteLink n l) := by
  have hempty : LinkKept l { l with mode := .muted, queue := [] } := .of_sublist rfl rfl (List.nil_sublist _)
  unfold muteLink
  dsimp only
  split_ifs
  · exact hempty.trans (startHoldoff_kept n _)
  · exact hempty.follows

theorem reopenLink_kept (p : Profile) (l : Link) : LinkKept l (reopenLink p l) := by
  have hfresh : LinkKept l { l with receiver := freshReceiver .hunt, resetDue := false, stuckDue := false } :=
    ⟨id, fun _ => .inl rfl⟩
  unfold reopenLink
  dsimp only
  split_ifs
  · exact hfresh.trans (startHoldoff_kept _ _)
  · exact hfresh

theorem sampleBit_kept (held : Option Nat) (stuckAt : Nat) (l : Link) (b : Bool) :
    LinkKept l (sampleBit held stuckAt l b) := by
  by_cases hoff : l.receiver.state = .off
  · rw [sampleBit_off held stuckAt b hoff]
    exact .refl l
  · rw [sampleBit_on held stuckAt b hoff]
    exact ⟨id, fun _ => (receiverAfter_sameRuns held b hoff).apart (countBit_apart _ b)⟩

theorem sampleBits_kept (held : Option Nat) (stuckAt : Nat) (bits : List Bool) (l : Link) :
    LinkKept l (sampleBits held stuckAt l bits) := by
  induction bits generalizing l with
  | nil => exact .refl l
  | cons b bs ih => exact (sampleBit_kept held stuckAt l b).trans (ih _)

/-- The segment the link feeds is no ANNOUNCE, and there is room for it (R97). -/
theorem feedSegment_kept (s : State) : LinkKept s.link (feedSegment s).link := by
  rcases feedSegment_cases s with h | ⟨i, -, -, hroom, -, h⟩ <;> rw [h]
  · exact .refl _
  · simp only [State.setComm_link, State.setLink_link]
    refine .follows ⟨fun ⟨h1, h2, h3⟩ => ⟨h1, ?_, ?_⟩, id⟩
    · simpa using hroom
    · exact announces_append_length h3 fun hk => absurd hk (by simp [segmentFrame, kindProfile, kindAnnounce])

end Sys2Proof.Machine
end

section
/-! SUPPORT. What every shared operation keeps: the queue of commands, the supply state, the pins, the model's counter, and the
invariants of the link, the table, the bond engine and the retention domain. One lemma per operation, in the order of the
definitions; the invariants (O5 to O10) and the completion of every command (O2) are read off from them. -/

namespace Sys2Proof.Machine

/-! ## What is kept -/

/-- The uncovered items that the retention check tests: the two check words, and the two copies of the counter (R186). -/
def WordsAgree (d : Domain) : Prop :=
  d.word1 = Config.checkWord1 ∧ d.word2 = Config.checkWord2 ∧ d.seconds = d.secondsCopy

/-- The covered counts of `RetainedInRange` as a fact about the retained items. -/
def CountsInRange (r : Retained) : Prop :=
  Config.chargeMin ≤ r.charge ∧ r.charge ≤ Config.chargeMax ∧ r.points.length ≤ Config.listPlaces
    ∧ r.grade.epoch ≤ 255 ∧ r.grade.estimateCount ≤ 255

/-- The range of the seconds counter's two copies. -/
def CopiesInRange (d : Domain) : Prop := d.seconds ≤ Config.secondsMax ∧ d.secondsCopy ≤ Config.secondsMax

theorem retainedInRange_iff (s : State) :
    RetainedInRange s ↔ (domainTrusted s = true → CountsInRange s.ret ∧ CopiesInRange s.dom) := by
  unfold RetainedInRange CountsInRange CopiesInRange
  simp only [and_assoc]
  rfl

/-- The timers of an engagement stopped, PAIR-EN inactive and no PROPOSE to withdraw. -/
def BondEngine.Stopped (b : BondEngine) : Prop :=
  b.replyTimer = none ∧ b.holdTimer = none ∧ b.partnerTimer = none ∧ b.pairEn = false ∧ b.proposeTaken = false

/-- What every operation of the blocks keeps between two states of one command. -/
structure Keeps (s t : State) : Prop where
  pending : t.pending = s.pending
  supply : t.supply = s.supply
  pins : t.pins = s.pins
  free : t.free = s.free
  words : WordsAgree s.dom → WordsAgree t.dom
  link : LinkKept s.link t.link
  table : s.table.Ordered → t.table.Ordered
  timers : inRun s = true → BondTimersOk s → BondTimersOk t
  engaged : s.ret.engaged.isSome = engagedState s.ret.bondState → t.ret.engaged.isSome = engagedState t.ret.bondState
  range : CountsInRange s.ret → CountsInRange t.ret
  seconds : CopiesInRange s.dom → CopiesInRange t.dom

namespace Keeps

variable {s t u : State}

theorem refl (s : State) : Keeps s s := ⟨rfl, rfl, rfl, rfl, id, .refl _, id, fun _ => id, id, id, id⟩

theorem inRun (h : Keeps s t) : inRun t = Machine.inRun s := by
  unfold Machine.inRun
  rw [h.supply]

theorem trans (h : Keeps s t) (h' : Keeps t u) : Keeps s u where
  pending := h'.pending.trans h.pending
  supply := h'.supply.trans h.supply
  pins := h'.pins.trans h.pins
  free := h'.free.trans h.free
  words := h'.words ∘ h.words
  link := h.link.trans h'.link
  table := h'.table ∘ h.table
  timers := fun hr hb => h'.timers (h.inRun.trans hr) (h.timers hr hb)
  engaged := h'.engaged ∘ h.engaged
  range := h'.range ∘ h.range
  seconds := h'.seconds ∘ h.seconds

/-- The last operation first: its lemma fixes the state in between. -/
theorem via (h' : Keeps t u) (h : Keeps s t) : Keeps s u := h.trans h'

theorem ite {p : Prop} [Decidable p] (ht : p → Keeps s t) (hu : ¬ p → Keeps s u) : Keeps s (if p then t else u) := by
  split_ifs with hp
  · exact ht hp
  · exact hu hp

theorem setFe (s : State) (x : FrontEnd) : Keeps s (s.setFe x) :=
  ⟨rfl, rfl, rfl, rfl, id, .refl _, id, fun _ => id, id, id, id⟩

theorem setRest (s : State) (x : RestDetector) : Keeps s (s.setRest x) :=
  ⟨rfl, rfl, rfl, rfl, id, .refl _, id, fun _ => id, id, id, id⟩

theorem setPulse (s : State) (x : PulseEngine) : Keeps s (s.setPulse x) :=
  ⟨rfl, rfl, rfl, rfl, id, .refl _, id, fun _ => id, id, id, id⟩

theorem setFp (s : State) (x : FrameProcessor) : Keeps s (s.setFp x) :=
  ⟨rfl, rfl, rfl, rfl, id, .refl _, id, fun _ => id, id, id, id⟩

theorem setComm (s : State) (x : Commissioning) : Keeps s (s.setComm x) :=
  ⟨rfl, rfl, rfl, rfl, id, .refl _, id, fun _ => id, id, id, id⟩

theorem setLink (s : State) {x : Link} (h : LinkKept s.link x) : Keeps s (s.setLink x) :=
  ⟨rfl, rfl, rfl, rfl, id, h, id, fun _ => id, id, id, id⟩

theorem setTable (s : State) {x : PeerTable} (h : s.table.Ordered → x.Ordered) : Keeps s (s.setTable x) :=
  ⟨rfl, rfl, rfl, rfl, id, .refl _, h, fun _ => id, id, id, id⟩

theorem setBond (s : State) {x : BondEngine} (h : Machine.inRun s = true → BondTimersOk s → BondTimersOk (s.setBond x)) :
    Keeps s (s.setBond x) :=
  ⟨rfl, rfl, rfl, rfl, id, .refl _, id, h, id, id, id⟩

/-- The bond engine with its five guarded items as they were. -/
theorem setBond_of_same (s : State) {x : BondEngine} (hr : x.replyTimer = s.bond.replyTimer)
    (hh : x.holdTimer = s.bond.holdTimer) (hp : x.partnerTimer = s.bond.partnerTimer) (he : x.pairEn = s.bond.pairEn)
    (ht : x.proposeTaken = s.bond.proposeTaken) : Keeps s (s.setBond x) := by
  refine setBond s fun _ h => ?_
  unfold BondTimersOk at h ⊢
  rw [State.setBond_bond, hr, hh, hp, he, ht]
  exact h

/-- The retained items with the engagement as it was. -/
theorem setRet (s : State) {x : Retained} (hb : x.bondState = s.ret.bondState) (he : x.engaged = s.ret.engaged)
    (hr : CountsInRange s.ret → CountsInRange x) : Keeps s (s.setRet x) := by
  refine ⟨rfl, rfl, rfl, rfl, id, .refl _, id, fun _ h => ?_, fun h => ?_, hr, id⟩
  · unfold BondTimersOk at h ⊢
    rw [State.setRet_ret, hb]
    exact h
  · rw [State.setRet_ret, hb, he]
    exact h

end Keeps

/-! ## The guards of the bond engine's timers -/

theorem BondTimersOk.of_stopped {s : State} (h : s.bond.Stopped) : BondTimersOk s := by
  obtain ⟨hr, hh, hp, he, ht⟩ := h
  simp [BondTimersOk, hr, hh, hp, he, ht]

/-- Outside an engagement nothing of one runs. -/
theorem BondTimersOk.stopped {s : State} (h : BondTimersOk s) (hs : engagedState s.ret.bondState = false) :
    s.bond.Stopped := by
  obtain ⟨hr, hh, hp, he, ht⟩ := h
  refine ⟨?_, ?_, ?_, ?_, ?_⟩
  · by_contra hne
    simp [(hr (Option.isSome_iff_ne_none.2 hne)).2, engagedState] at hs
  · by_contra hne
    simp [(hh (Option.isSome_iff_ne_none.2 hne)).2, engagedState] at hs
  · by_contra hne
    simp [(hp (Option.isSome_iff_ne_none.2 hne)).2, engagedState] at hs
  · by_contra hne
    have hstands := (he (by simpa using hne)).2
    cases hb : s.ret.bondState <;> simp [hb, engagedState, bondStands] at hs hstands
  · by_contra hne
    simp [(ht (by simpa using hne)).2, engagedState] at hs

theorem clearBond_stopped (s : State) : (clearBond s).bond.Stopped := ⟨rfl, rfl, rfl, rfl, rfl⟩

/-! ## The flags and the offers -/

theorem clearMarks_keeps (s : State) : Keeps s (clearMarks s) :=
  (Keeps.setFe s _).trans (.setLink _ (.of_eq rfl rfl rfl))

theorem announceSent_keeps (flags : Byte) (s : State) : Keeps s (announceSent flags s) := by
  unfold announceSent
  exact .via (.setRet _ rfl rfl id) <| .via (.setLink _ (.of_eq rfl rfl rfl)) (.setFe s _)

theorem offer_keeps (f : Frame) (s : State) : Keeps s (offer f s) := .setLink s (offerFrame_kept _ f)

/-! ## The bond engine -/

theorem withdrawPropose_keeps (s : State) : Keeps s (withdrawPropose s) := by
  rcases withdrawPropose_cases s with h | ⟨n, -, -, -, h⟩ <;> rw [h]
  · exact .refl s
  · exact .setLink s (withdrawFrame_kept _ _)

theorem unpinEngaged_keeps (s : State) : Keeps s (unpinEngaged s) := .setTable s (unpin_ordered _ _)

theorem pinEngaged_keeps (n : Nat) (s : State) : Keeps s (pinEngaged n s) := .setTable s id

theorem clearBond_keeps (s : State) : Keeps s (clearBond s) :=
  .setBond s fun _ _ => .of_stopped (clearBond_stopped s)

/-- A bond state with its engaged number, where the timers agree with it. -/
theorem setBondState_keeps {b : BondState} {n : Option Nat} {s : State} (hn : n.isSome = engagedState b)
    (ht : inRun s = true → BondTimersOk s → BondTimersOk (setBondState b n s)) : Keeps s (setBondState b n s) :=
  ⟨rfl, rfl, rfl, rfl, id, .refl _, id, ht, fun _ => hn, id, id⟩

theorem setBondState_keeps_of_stopped {b : BondState} {n : Option Nat} {s : State} (hn : n.isSome = engagedState b)
    (ht : inRun s = true → BondTimersOk s → s.bond.Stopped) : Keeps s (setBondState b n s) :=
  setBondState_keeps hn fun hr h => .of_stopped (ht hr h)

/-- From a state without an engagement the engine may pass to any other. -/
theorem setBondState_keeps_of_free {b : BondState} {s : State} (hs : engagedState s.ret.bondState = false)
    (hb : engagedState b = false) : Keeps s (setBondState b none s) :=
  setBondState_keeps_of_stopped hb.symm fun _ h => h.stopped hs

theorem disengage_keeps {next : BondState} (s : State) (hn : engagedState next = false) : Keeps s (disengage next s) :=
  (((withdrawPropose_keeps s).trans (clearBond_keeps _)).trans (unpinEngaged_keeps _)).trans
    (setBondState_keeps_of_stopped hn.symm fun _ _ => clearBond_stopped _)

theorem disengageMarked_keeps (n : Nat) (r : DeclineReason) (s : State) : Keeps s (disengageMarked n r s) :=
  (((withdrawPropose_keeps s).trans (clearBond_keeps _)).trans (.setTable _ (markAndUnpin_ordered _ _ n r))).trans
    (setBondState_keeps_of_stopped rfl fun _ _ => clearBond_stopped _)

theorem freeOrRejected_not_engaged (s : State) : engagedState (freeOrRejected s) = false := by
  unfold freeOrRejected
  split_ifs <;> rfl

theorem readinessTest_keeps (s : State) : Keeps s (readinessTest s) := by
  unfold readinessTest
  split_ifs with h
  · have hs : engagedState s.ret.bondState = false := by simp [h.1, engagedState]
    split
    · exact setBondState_keeps_of_free hs rfl
    · exact setBondState_keeps_of_free hs rfl
    · exact .refl s
  · exact .refl s

theorem pairTest_keeps (own : Option Nat) (s : State) : Keeps s (pairTest own s) := by
  unfold pairTest
  refine .ite (fun hp => .setBond s fun hr h => ?_) fun _ => .refl s
  obtain ⟨hreply, hhold, hpartner, -, htaken⟩ := h
  exact ⟨hreply, hhold, hpartner, fun _ => ⟨hr, hp.1⟩, htaken⟩

theorem enterBonded_keeps (n : Nat) (s : State) : Keeps s (enterBonded n s) := by
  refine Keeps.trans ?_ (pairTest_keeps _ _)
  refine ⟨rfl, rfl, rfl, rfl, id, .refl _, id, fun hr _ => ?_, fun _ => rfl, id, id⟩
  refine ⟨fun h => ?_, fun h => ?_, fun _ => ⟨hr, rfl⟩, fun _ => ⟨hr, rfl⟩, fun h => ?_⟩
  all_goals cases h

theorem enterProposing_keeps (n : Nat) (taken : Bool) {s : State} (hs : engagedState s.ret.bondState = false) :
    Keeps s (enterProposing n taken s) := by
  refine ⟨rfl, rfl, rfl, rfl, id, .refl _, id, fun hr h => ?_, fun _ => rfl, id, id⟩
  obtain ⟨-, hhold, hpartner, hpair, -⟩ := h.stopped hs
  refine ⟨fun _ => ⟨hr, rfl⟩, fun h => ?_, fun h => ?_, fun h => ?_, fun _ => ⟨hr, rfl⟩⟩
  · cases hhold ▸ (h : s.bond.holdTimer.isSome = true)
  · cases hpartner ▸ (h : s.bond.partnerTimer.isSome = true)
  · cases hpair ▸ (h : s.bond.pairEn = true)

theorem enterHeld_keeps (n : Nat) {s : State} (hs : bondStands s.ret.bondState = false) : Keeps s (enterHeld n s) := by
  refine ⟨rfl, rfl, rfl, rfl, id, .refl _, id, fun hr h => ?_, fun _ => rfl, id, id⟩
  obtain ⟨-, -, hpartner, hpair, -⟩ := h
  refine ⟨fun h => ?_, fun _ => ⟨hr, rfl⟩, fun h => ?_, fun h => ?_, fun h => ?_⟩
  · cases h
  · simp [(hpartner h).2, bondStands] at hs
  · simp [(hpair h).2] at hs
  · cases h

theorem releasePartner_keeps (r : ReleaseReason) {next : BondState} (s : State) (hn : engagedState next = false) :
    Keeps s (releasePartner r next s) := by
  unfold releasePartner
  split
  · exact (offer_keeps _ s).trans (disengage_keeps _ hn)
  · exact disengage_keeps s hn

theorem bondEpochRise_keeps (before : Option GradeClass) (s : State) : Keeps s (bondEpochRise before s) := by
  have hexit := freeOrRejected_not_engaged s
  unfold bondEpochRise
  split
  · exact readinessTest_keeps s
  · exact .ite (fun _ => disengage_keeps s rfl) fun _ => .ite (fun _ => disengage_keeps s rfl) fun _ => .refl s
  · exact .ite (fun _ => disengage_keeps s rfl) fun _ => .ite (fun _ => .refl s) fun _ => disengage_keeps s rfl
  · exact .ite (fun _ => disengage_keeps s rfl) fun _ => .ite (fun _ => disengage_keeps s hexit) fun _ => .refl s
  · exact .ite (fun _ => disengage_keeps s rfl) fun _ => .ite (fun _ => disengage_keeps s hexit) fun _ => .refl s
  · exact .ite (fun _ => releasePartner_keeps _ s rfl) fun _ =>
      .ite (fun _ => releasePartner_keeps _ s hexit) fun _ => .refl s
  · exact .ite (fun _ => releasePartner_keeps _ s rfl) fun _ => .refl s

/-! ## The grade unit -/

theorem tellEpochRise_keeps (before : Option GradeClass) (s : State) : Keeps s (tellEpochRise before s) :=
  (Keeps.setTable s (rescoreTable_ordered _ _)).trans (bondEpochRise_keeps before _)

theorem raisedEpoch_le (e : Nat) : raisedEpoch e ≤ 255 := Nat.le_of_lt_succ (Nat.mod_lt _ (by decide))

/-- A record in range in the place of the present one. -/
theorem setGrade_keeps (s : State) {g : GradeRecord} (he : s.grade.epoch ≤ 255 → g.epoch ≤ 255)
    (hc : s.grade.estimateCount ≤ 255 → g.estimateCount ≤ 255) : Keeps s (s.setRet { s.ret with grade := g }) :=
  .setRet s rfl rfl fun ⟨h1, h2, h3, h4, h5⟩ => ⟨h1, h2, h3, he h4, hc h5⟩

theorem gradeEvent_keeps {g : GradeRecord} {s : State} (he : g.epoch = s.grade.epoch)
    (hc : s.grade.estimateCount ≤ 255 → g.estimateCount ≤ 255) : Keeps s (gradeEvent g s) := by
  unfold gradeEvent
  dsimp only
  refine .ite (fun _ => ?_) fun _ => setGrade_keeps s (fun h => he.trans_le h) hc
  exact .via (tellEpochRise_keeps _ _) (setGrade_keeps s (fun _ => raisedEpoch_le _) hc)

theorem takePairOffer_keeps (high low : RestPoint) (s : State) : Keeps s (takePairOffer high low s) := by
  unfold takePairOffer
  exact .ite (fun _ => .refl s) fun _ => .ite (fun _ => .setRest s _) fun _ =>
    gradeEvent_keeps rfl fun _ => Nat.min_le_left _ _

theorem takePulseResult_keeps (r r25c : Nat) (t : Int) (s : State) : Keeps s (takePulseResult r r25c t s) :=
  gradeEvent_keeps rfl id

theorem takeSelfDischarge_keeps (ref : LongRestReference) (soc : Nat) (t : Int) (s : State) :
    Keeps s (takeSelfDischarge ref soc t s) := by
  unfold takeSelfDischarge
  exact .ite (fun _ => gradeEvent_keeps rfl id) fun _ => .refl s

/-! ## The rest detector and the pulse engine -/

/-- A list of rest points within its places in the place of the present one. -/
theorem setPoints_keeps (s : State) {l : List RestPoint} {o : Option PairTimes}
    (h : s.ret.points.length ≤ Config.listPlaces → l.length ≤ Config.listPlaces) :
    Keeps s (s.setRet { s.ret with points := l, offered := o }) :=
  .setRet s rfl rfl fun ⟨h1, h2, h3, h4, h5⟩ => ⟨h1, h2, h h3, h4, h5⟩

theorem continuityBreak_keeps (s : State) : Keeps s (continuityBreak s) :=
  (setPoints_keeps s fun _ => Nat.zero_le _).trans (.setRest _ _)

theorem examinePair_keeps (s : State) : Keeps s (examinePair s) := by
  unfold examinePair
  split
  · exact .ite (fun _ => (setPoints_keeps s id).trans (takePairOffer_keeps _ _ _)) fun _ => .refl s
  · exact .refl s

theorem oldestOther_le (l : List RestPoint) : oldestOther l ≤ 2 := by
  unfold oldestOther
  split_ifs <;> decide

theorem addPoint_length (p : RestPoint) {l : List RestPoint} (h : l.length ≤ Config.listPlaces) :
    (addPoint p l).length ≤ Config.listPlaces := by
  unfold addPoint
  dsimp only
  split_ifs with hroom
  · exact hroom
  · have hother := oldestOther_le (l ++ [p])
    simp only [Config.listPlaces, List.length_append, List.length_singleton] at h hroom ⊢
    rw [List.length_eraseIdx_of_lt (by simp only [List.length_append, List.length_singleton]; omega)]
    simp only [List.length_append, List.length_singleton]
    omega

theorem enterRested_keeps (s : State) : Keeps s (enterRested s) := by
  unfold enterRested
  split
  · exact .setRest s _
  · exact .refl s

theorem offerPulse_keeps (t : Int) (s : State) : Keeps s (offerPulse t s) := by
  unfold offerPulse
  split
  · exact .ite (fun _ => (Keeps.setPulse s _).trans (.setRest _ _)) fun _ => enterRested_keeps s
  · exact enterRested_keeps s

theorem capture_keeps (s : State) : Keeps s (capture s) := by
  unfold capture
  split
  · exact (((Keeps.setRest s _).trans (setPoints_keeps _ (addPoint_length _))).trans (examinePair_keeps _)).trans
      (offerPulse_keeps _ _)
  · exact .refl s

theorem restTakesRecord_keeps (rec : SampleRecord) (s : State) : Keeps s (restTakesRecord rec s) := by
  unfold restTakesRecord
  refine .ite (fun _ => continuityBreak_keeps s) fun _ => .ite (fun _ => .refl s) fun _ => ?_
  dsimp only
  split
  · exact .ite (fun _ => .setRest s _) fun _ => .refl s
  all_goals exact .ite (fun _ => .refl s) fun _ => .setRest s _

theorem reportPulseOver_keeps (s : State) : Keeps s (reportPulseOver s) := by
  unfold reportPulseOver
  exact .ite (fun _ => .setRest s _) fun _ => .refl s

theorem handPulseResult_keeps (pre : PreSample) (post : EndSample) (n : Nat) (s : State) :
    Keeps s (handPulseResult pre post n s) :=
  .via (takePulseResult_keeps _ _ _ _) (.setRet s rfl rfl id)

theorem endPulse_keeps (s : State) : Keeps s (endPulse s) := .setPulse s _

theorem pulseTakesRecord_keeps (rec : SampleRecord) (s : State) : Keeps s (pulseTakesRecord rec s) := by
  unfold pulseTakesRecord
  split
  · exact .refl s
  · exact .ite (fun _ => .setPulse s _) fun _ => .setPulse s _
  · split
    · exact .ite (fun _ => ((endPulse_keeps s).trans (handPulseResult_keeps _ _ _ _)).trans (reportPulseOver_keeps _))
        fun _ => (endPulse_keeps s).trans (reportPulseOver_keeps _)
    · exact (endPulse_keeps s).trans (reportPulseOver_keeps _)

theorem clearPulse_keeps (s : State) : Keeps s (clearPulse s) := .via (.setPulse _ _) (.setRet s rfl rfl id)

/-! ## Commissioning and the link modes -/

theorem startShare_keeps (s : State) : Keeps s (startShare s) := by
  unfold startShare
  exact .ite (fun _ => .setComm s _) fun _ => .refl s

theorem linkUp_keeps (s : State) : Keeps s (linkUp s) :=
  .via (startShare_keeps _) <| .via (readinessTest_keeps _) <| .via (.setBond_of_same _ rfl rfl rfl rfl rfl) <|
    .via (.setFp _ _) (.setLink s (.of_eq rfl rfl rfl))

theorem muteBond_keeps (s : State) : Keeps s (muteBond s) := by
  have htimer : Keeps s (s.setBond { s.bond with proposalTimer := none }) := .setBond_of_same s rfl rfl rfl rfl rfl
  unfold muteBond
  exact .ite (fun _ => htimer) fun _ => htimer.trans (disengage_keeps _ rfl)

theorem enterMuted_keeps (s : State) : Keeps s (enterMuted s) :=
  .via (muteBond_keeps _) <| .via (.setComm _ _) <| .via (.setTable _ fun _ => .empty _) <|
    .via (.setFp _ _) (.setLink s (muteLink_kept _ _))

theorem numberConflict_keeps (s : State) : Keeps s (numberConflict s) := by
  unfold numberConflict
  exact .ite (fun _ => (Keeps.setComm s _).trans (enterMuted_keeps _)) fun _ => .refl s

theorem claimHeld_keeps (n : Nat) (m : NumberMethod) (s : State) : Keeps s (claimHeld n m s) :=
  (Keeps.setComm s _).trans (offer_keeps _ _)

theorem enterQuietWait_keeps (s : State) : Keeps s (enterQuietWait s) := .setComm s _

theorem enterChainWait_keeps (s : State) : Keeps s (enterChainWait s) := by
  unfold enterChainWait
  exact .ite (fun _ => (Keeps.setComm s _).trans (enterQuietWait_keeps _)) fun _ => .setComm s _

theorem enterNumbering_keeps (s : State) : Keeps s (enterNumbering s) := by
  unfold enterNumbering
  refine .ite (fun _ => claimHeld_keeps _ _ s) fun _ => ?_
  split
  · exact claimHeld_keeps _ _ s
  · exact enterChainWait_keeps s

theorem chainedClaim_keeps (s : State) : Keeps s (chainedClaim s) := by
  unfold chainedClaim
  exact .ite (fun _ => (Keeps.setComm s _).trans (enterMuted_keeps _)) fun _ => (Keeps.setComm s _).trans (offer_keeps _ _)

theorem becomeNumbered_keeps (s : State) : Keeps s (becomeNumbered s) := by
  unfold becomeNumbered
  split
  · exact .via (linkUp_keeps _) <| .via (.setRet _ rfl rfl id) (.setComm s _)
  · exact .refl s

theorem reportDropped_keeps (f : Frame) (s : State) : Keeps s (reportDropped f s) := by
  unfold reportDropped
  refine .ite (fun _ => ?_) fun _ => .refl s
  split
  · exact enterQuietWait_keeps s
  · exact offer_keeps _ s
  · exact .refl s

theorem reportSent_keeps (f : Frame) (s : State) : Keeps s (reportSent f s) := by
  unfold reportSent
  exact .ite (fun _ => announceSent_keeps _ s) fun _ => .ite (fun _ => becomeNumbered_keeps s) fun _ => .refl s

theorem noteHighest_keeps (n : Nat) (s : State) : Keeps s (noteHighest n s) := .setComm s _

theorem withdrawClaim_keeps (s : State) : Keeps s (withdrawClaim s) :=
  (Keeps.setLink s (withdrawFrame_kept _ _)).trans (enterQuietWait_keeps _)

theorem commTakesEnum_keeps (n : Nat) (s : State) : Keeps s (commTakesEnum n s) := by
  have hnoted := noteHighest_keeps n s
  unfold commTakesEnum
  exact .ite (fun _ => hnoted.trans (.setComm _ _)) fun _ =>
    .ite (fun _ => hnoted.trans (withdrawClaim_keeps _)) fun _ => hnoted

theorem commTakesAnnounce_keeps (n : Nat) (s : State) : Keeps s (commTakesAnnounce n s) := by
  have hnoted := noteHighest_keeps n s
  unfold commTakesAnnounce
  exact .ite (fun _ => hnoted.trans (withdrawClaim_keeps _)) fun _ => hnoted

/-- A BONDED engine may start its partner timer. -/
theorem setPartnerTimer_keeps {s : State} (hb : s.ret.bondState = .bonded) (n : Nat) :
    Keeps s (s.setBond { s.bond with partnerTimer := some n }) := by
  refine .setBond s fun hr h => ?_
  obtain ⟨hreply, hhold, -, hpair, htaken⟩ := h
  exact ⟨hreply, hhold, fun _ => ⟨hr, hb⟩, hpair, htaken⟩

theorem startBond_keeps (s : State) : Keeps s (startBond s) := by
  unfold startBond
  split
  case h_1 hb => exact setPartnerTimer_keeps hb _
  case h_2 hb => exact .ite (fun _ => setBondState_keeps_of_free (by simp [hb, engagedState]) rfl) fun _ => .refl s
  case h_3 hb => exact .ite (fun _ => setBondState_keeps_of_free (by simp [hb, engagedState]) rfl) fun _ => .refl s
  all_goals exact .refl s

theorem coldRetained_inRange : CountsInRange coldRetained := by
  unfold CountsInRange
  decide

theorem madeCold_keeps (s : State) : Keeps s (madeCold s) :=
  ⟨rfl, rfl, rfl, rfl, fun _ => ⟨rfl, rfl, rfl⟩, .refl _, fun _ => .empty _,
    fun _ _ => .of_stopped ⟨rfl, rfl, rfl, rfl, rfl⟩, fun _ => rfl, fun _ => coldRetained_inRange,
    fun _ => ⟨Nat.zero_le _, Nat.zero_le _⟩⟩

theorem compareCheck_keeps (check : Word16) (s : State) : Keeps s (compareCheck check s) := by
  unfold compareCheck
  split
  · exact .ite (fun _ => .refl s) fun _ => madeCold_keeps s
  · exact .refl s

theorem profileInForce_keeps (rec : LoadedRecord) (source : ProfileSource) (s : State) :
    Keeps s (profileInForce rec source s) :=
  .via (enterNumbering_keeps _) <| .via (startBond_keeps _) <| .via (.setLink _ (reopenLink_kept _ _)) <|
    .via (.setRet _ rfl rfl id) <| .via (continuityBreak_keeps _) <| .via (.setFe _ _) <|
    .via (.setRet _ rfl rfl id) (compareCheck_keeps rec.check s)

theorem awaitProfile_keeps (s : State) : Keeps s (awaitProfile s) := (Keeps.setComm s _).trans (offer_keeps _ _)

theorem loadProfile_keeps (i : StartInputs) (s : State) : Keeps s (loadProfile i s) := by
  have hloading := (Keeps.setComm s { s.comm with state := .loading, highest := 0 }).trans
    (.setRet _ (x := { s.ret with inForce := false, profile := none, source := none, activity := .dormant }) rfl rfl id)
  unfold loadProfile
  dsimp only
  split
  · split
    · exact (hloading.trans (.setComm _ _)).trans (profileInForce_keeps _ _ _)
    · exact (hloading.trans (.setComm _ _)).trans (.setComm _ _)
  · exact hloading.trans (profileInForce_keeps _ _ _)
  · exact hloading.trans (awaitProfile_keeps _)
  · split
    · exact (hloading.trans (.setComm _ _)).trans (profileInForce_keeps _ _ _)
    · exact (hloading.trans (.setComm _ _)).trans (profileInForce_keeps _ _ _)

theorem feedSegment_keeps (s : State) : Keeps s (feedSegment s) := by
  obtain ⟨hpending, hsupply, hdom, -, -, -, -, htable, hbond, hpins, hfree⟩ := feedSegment_frame s
  have hret : (feedSegment s).ret = s.ret := congrArg Domain.ret hdom
  refine ⟨hpending, hsupply, hpins, hfree, fun h => hdom ▸ h, feedSegment_kept s, fun h => htable ▸ h, fun _ h => ?_,
    fun h => hret ▸ h, fun h => hret ▸ h, fun h => hdom ▸ h⟩
  unfold BondTimersOk inRun at h ⊢
  rw [hbond, hret, hsupply]
  exact h

theorem judgeBuffer_keeps (s : State) : Keeps s (judgeBuffer s) := by
  unfold judgeBuffer
  split
  · refine .ite (fun _ => ?_) fun _ => .refl s
    dsimp only
    split
    · exact ((Keeps.setComm s _).trans (.setComm _ _)).trans (profileInForce_keeps _ _ _)
    · exact .setComm s _
  · exact .refl s

theorem commTakesSegment_keeps (f : Frame) (s : State) : Keeps s (commTakesSegment f s) := by
  unfold commTakesSegment
  exact .ite (fun _ => (Keeps.setComm s _).trans (judgeBuffer_keeps _)) fun _ => .refl s

theorem commTakesRequest_keeps (f : Frame) (s : State) : Keeps s (commTakesRequest f s) := by
  unfold commTakesRequest
  exact .ite (fun _ => startShare_keeps s) fun _ => .refl s

theorem sampled_keeps (bits : List Bool) (s : State) : Keeps s (sampled bits s) := .setLink s (sampleBits_kept _ _ bits _)

/-! ## The frames handed on -/

theorem takeInHand_keeps (s : State) : Keeps s (takeInHand s) := by
  refine (Keeps.setFp s _).trans (.setLink _ ⟨fun ⟨h1, h2, h3⟩ => ⟨?_, h2, h3⟩, id⟩)
  exact (List.tail_sublist _).length_le.trans h1

theorem putDown_keeps (s : State) : Keeps s (putDown s) := .setFp s _

theorem unlessFailed_keeps {s t : State} (h : Keeps s t) : Keeps s (unlessFailed s t) := .ite (fun _ => .refl s) fun _ => h

theorem onceInForce_keeps {s t : State} (h : Keeps s t) : Keeps s (onceInForce s t) := .ite (fun _ => h) fun _ => .refl s

theorem handEnum_keeps (f : Frame) (s : State) : Keeps s (handEnum f s) := unlessFailed_keeps (commTakesEnum_keeps _ s)

theorem handQuery_keeps (f : Frame) (s : State) : Keeps s (handQuery f s) := onceInForce_keeps (offer_keeps _ s)

theorem handRequest_keeps (f : Frame) (s : State) : Keeps s (handRequest f s) :=
  unlessFailed_keeps (commTakesRequest_keeps f s)

theorem handSegment_keeps (f : Frame) (s : State) : Keeps s (handSegment f s) :=
  unlessFailed_keeps (commTakesSegment_keeps f s)

theorem isPartner_iff (x : Nat) (s : State) :
    isPartner x s = true ↔ bondStands s.ret.bondState = true ∧ s.ret.engaged = some x := by
  simp [isPartner]

theorem bondStands_iff (b : BondState) : bondStands b = true ↔ b = .bonded ∨ b = .bondedSilent := by
  cases b <;> simp [bondStands]

theorem partnerHeard_keeps (x : Nat) (s : State) : Keeps s (partnerHeard x s) := by
  unfold partnerHeard
  refine .ite (fun hp => ?_) fun _ => .refl s
  obtain ⟨hstands, hengaged⟩ := (isPartner_iff x s).1 hp
  refine ⟨rfl, rfl, rfl, rfl, id, .refl _, id, fun hr h => ?_, fun _ => ?_, id, id⟩
  · obtain ⟨hreply, hhold, -, -, htaken⟩ := h
    refine ⟨fun h => ?_, fun h => ?_, fun _ => ⟨hr, rfl⟩, fun _ => ⟨hr, rfl⟩, fun h => ?_⟩
    · simp [(hreply h).2, bondStands] at hstands
    · simp [(hhold h).2, bondStands] at hstands
    · simp [(htaken h).2, bondStands] at hstands
  · simp [setBondState, hengaged, engagedState]

theorem examineAnnounce_keeps (a : AnnounceFields) (s : State) : Keeps s (examineAnnounce a s) := by
  have hcount : Keeps s (s.setBond { s.bond with inconsistency := countAfter a s }) :=
    .setBond_of_same s rfl rfl rfl rfl rfl
  unfold examineAnnounce
  exact .ite (fun _ => releasePartner_keeps _ s (freeOrRejected_not_engaged s)) fun _ =>
    .ite (fun _ => hcount.trans (releasePartner_keeps _ _ rfl)) fun _ => hcount

theorem bondTakesAnnounce_keeps (a : AnnounceFields) (s : State) : Keeps s (bondTakesAnnounce a s) := by
  unfold bondTakesAnnounce
  exact .ite (fun _ => .via (pairTest_keeps _ _) <| .via (examineAnnounce_keeps a _) <|
    .via (.setBond_of_same _ rfl rfl rfl rfl rfl) (partnerHeard_keeps _ s)) fun _ => .refl s

theorem tableTakesAnnounce_keeps (a : AnnounceFields) (s : State) : Keeps s (tableTakesAnnounce a s) := by
  unfold tableTakesAnnounce
  exact .ite (fun _ => .setTable s (hearAnnounce_ordered _ _ _ a)) fun _ => .refl s

theorem handAnnounce_keeps (f : Frame) (s : State) : Keeps s (handAnnounce f s) :=
  unlessFailed_keeps ((commTakesAnnounce_keeps _ s).trans
    (onceInForce_keeps ((tableTakesAnnounce_keeps _ _).trans (bondTakesAnnounce_keeps _ _))))

theorem judgeProposal_keeps (x epoch : Nat) {s : State} (hs : bondStands s.ret.bondState = false) :
    Keeps s (judgeProposal x epoch s) := by
  unfold judgeProposal
  split
  · exact offer_keeps _ s
  · exact (offer_keeps _ s).trans (enterHeld_keeps x hs)

@[simp] theorem withdrawPropose_ret (s : State) : (withdrawPropose s).ret = s.ret := by
  rcases withdrawPropose_cases s with h | ⟨n, -, -, -, h⟩ <;> rw [h]
  rfl

theorem crossProposal_keeps (x : Nat) {s : State} (hs : bondStands s.ret.bondState = false) :
    Keeps s (crossProposal x s) := by
  unfold crossProposal
  refine .ite (fun _ => ?_) fun _ => .refl s
  exact ((offer_keeps _ s).trans (withdrawPropose_keeps _)).trans (enterHeld_keeps x (by simpa [offer] using hs))

theorem bondTakesPropose_keeps (x epoch : Nat) (s : State) : Keeps s (bondTakesPropose x epoch s) := by
  have hdecline (r : DeclineReason) : Keeps s (offer (declineFrame s x r) s) := offer_keeps _ s
  unfold bondTakesPropose
  split
  case h_6 hb =>
    exact .ite (fun _ => hdecline _) fun _ =>
      .ite (fun _ => crossProposal_keeps x (by simp [hb, bondStands])) fun _ => hdecline _
  case h_7 hb => exact .ite (fun _ => hdecline _) fun _ => judgeProposal_keeps x epoch (by simp [hb, bondStands])
  case h_1 => exact hdecline _
  case h_2 => exact hdecline _
  all_goals exact .ite (fun _ => hdecline _) fun _ => hdecline _

theorem handPropose_keeps (f : Frame) (s : State) : Keeps s (handPropose f s) :=
  onceInForce_keeps ((partnerHeard_keeps _ s).trans (bondTakesPropose_keeps _ _ _))

theorem answerLate_keeps (x : Nat) (s : State) : Keeps s (answerLate x s) := offer_keeps _ s

theorem bondTakesAccept_keeps (x : Nat) (s : State) : Keeps s (bondTakesAccept x s) := by
  unfold bondTakesAccept
  exact .ite (fun _ => (offer_keeps _ s).trans (enterBonded_keeps x _)) fun _ =>
    .ite (fun _ => .refl s) fun _ => answerLate_keeps x s

theorem handAccept_keeps (f : Frame) (s : State) : Keeps s (handAccept f s) :=
  onceInForce_keeps ((partnerHeard_keeps _ s).trans (bondTakesAccept_keeps _ _))

theorem bondTakesConfirm_keeps (x : Nat) (s : State) : Keeps s (bondTakesConfirm x s) := by
  unfold bondTakesConfirm
  exact .ite (fun _ => enterBonded_keeps x s) fun _ => .ite (fun _ => .refl s) fun _ => answerLate_keeps x s

theorem handConfirm_keeps (f : Frame) (s : State) : Keeps s (handConfirm f s) :=
  onceInForce_keeps ((partnerHeard_keeps _ s).trans (bondTakesConfirm_keeps _ _))

theorem bondTakesDecline_keeps (x : Nat) (r : DeclineReason) (s : State) : Keeps s (bondTakesDecline x r s) := by
  unfold bondTakesDecline
  exact .ite (fun _ => disengageMarked_keeps x r s) fun _ => .refl s

theorem handDecline_keeps (f : Frame) (s : State) : Keeps s (handDecline f s) :=
  onceInForce_keeps ((partnerHeard_keeps _ s).trans (bondTakesDecline_keeps _ _ _))

theorem bondTakesRelease_keeps (x : Nat) (late : Bool) (s : State) : Keeps s (bondTakesRelease x late s) := by
  unfold bondTakesRelease
  exact .ite (fun _ => disengageMarked_keeps x _ s) fun _ => .ite (fun _ => disengage_keeps s rfl) fun _ =>
    .ite (fun _ => disengage_keeps s rfl) fun _ => .refl s

theorem handRelease_keeps (f : Frame) (s : State) : Keeps s (handRelease f s) :=
  onceInForce_keeps ((partnerHeard_keeps _ s).trans (bondTakesRelease_keeps _ _ _))

/-! ## The campaign -/

theorem handCampaign_keeps {act : State → State} (hact : ∀ s, Keeps s (act s)) (f : Frame) (s : State) :
    Keeps s (handCampaign act f s) :=
  onceInForce_keeps (.ite (fun _ => .refl s) fun _ => .via (hact _) (.setRet s rfl rfl id))

theorem takeStart_keeps (s : State) : Keeps s (takeStart s) := by
  unfold takeStart
  split
  · exact .via (readinessTest_keeps _) (.setRet s rfl rfl id)
  · exact .refl s

theorem cutHandshake_keeps (s : State) : Keeps s (cutHandshake s) := by
  unfold cutHandshake
  split
  · exact disengage_keeps s rfl
  · exact disengage_keeps s rfl
  all_goals exact .refl s

theorem takeFreeze_keeps (s : State) : Keeps s (takeFreeze s) := .via (cutHandshake_keeps _) (.setRet s rfl rfl id)

theorem bondTakesRegrade_keeps (s : State) : Keeps s (bondTakesRegrade s) := by
  unfold bondTakesRegrade
  split
  · exact .refl s
  · exact disengage_keeps s rfl
  · exact disengage_keeps s rfl
  · exact disengage_keeps s rfl
  · exact disengage_keeps s rfl
  · exact releasePartner_keeps _ s rfl
  · exact releasePartner_keeps _ s rfl

theorem carryOutRegrade_keeps (s : State) : Keeps s (carryOutRegrade s) :=
  ((((setGrade_keeps s (fun _ => raisedEpoch_le _) fun _ => Nat.zero_le _).trans (tellEpochRise_keeps _ _)).trans
    (continuityBreak_keeps _)).trans (clearPulse_keeps _)).trans (bondTakesRegrade_keeps _)

theorem takeRegrade_keeps (s : State) : Keeps s (takeRegrade s) := by
  unfold takeRegrade
  exact .ite (fun _ => .refl s) fun _ => carryOutRegrade_keeps s

theorem takeReleaseAll_keeps (s : State) : Keeps s (takeReleaseAll s) := by
  unfold takeReleaseAll
  exact .ite (fun _ => .refl s) fun _ => .ite (fun _ => releasePartner_keeps _ s rfl) fun _ => cutHandshake_keeps s

/-! ## The line's events -/

theorem beginAttempt_keeps (s : State) : Keeps s (beginAttempt s) := by
  unfold beginAttempt
  split
  · exact .ite (fun _ => .via (clearMarks_keeps _) (.setLink s (.of_eq rfl rfl rfl))) fun _ =>
      .setLink s (.of_eq rfl rfl rfl)
  · exact .refl s

theorem loseAttempt_keeps (s : State) : Keeps s (loseAttempt s) := .setLink s (startHoldoff_kept _ _)

/-- The attempt's frame removed, the line fault flag set or cleared, and HOLDOFF. -/
theorem endAttempt_keeps (s : State) (fault : Bool) :
    Keeps s (s.setLink (startHoldoff (prof s).holdoff { dropHead s.link with lineFault := fault })) :=
  .setLink s (.via (startHoldoff_kept _ _) (.of_sublist rfl rfl (List.tail_sublist _)))

theorem faultAttempt_keeps (s : State) : Keeps s (faultAttempt s) := by
  unfold faultAttempt
  dsimp only
  split
  · exact (endAttempt_keeps s true).trans (reportDropped_keeps _ _)
  · exact endAttempt_keeps s true

theorem completeAttempt_keeps (s : State) : Keeps s (completeAttempt s) := by
  unfold completeAttempt
  dsimp only
  split
  · exact (endAttempt_keeps s false).trans (reportSent_keeps _ _)
  · exact endAttempt_keeps s false

theorem resetBond_keeps (s : State) : Keeps s (resetBond s) := by
  unfold resetBond
  split
  · exact disengage_keeps s rfl
  · exact disengage_keeps s rfl
  all_goals exact .refl s

theorem reportsDropped_keeps (q : List Frame) (s : State) : Keeps s (q.foldl (fun t f => reportDropped f t) s) := by
  induction q generalizing s with
  | nil => exact .refl s
  | cons f q ih => exact (reportDropped_keeps f s).trans (ih _)

theorem takeBusReset_keeps (s : State) : Keeps s (takeBusReset s) :=
  (((Keeps.setLink s (resetLink_kept _)).trans (.setTable _ fun _ => .empty _)).trans (resetBond_keeps _)).trans
    (reportsDropped_keeps _ _)

theorem judgeFrame_keeps (own : Bool) (content : List Byte) (s : State) : Keeps s (judgeFrame own content s) := by
  unfold judgeFrame
  exact .ite (fun _ => .refl s) fun _ => .ite (fun _ => numberConflict_keeps s) fun _ =>
    .ite (fun _ => .setLink s (offerFifo_kept _ _)) fun _ => .refl s

theorem judgeClosed_keeps (s : State) : Keeps s (judgeClosed s) := by
  have hopen (rest : List ClosedFrame) : Keeps s (s.setLink { s.link with closed := rest }) :=
    .setLink s (.of_eq rfl rfl rfl)
  unfold judgeClosed
  split
  · dsimp only
    split
    · exact (hopen _).trans (judgeFrame_keeps _ _ _)
    · exact hopen _
  · exact .refl s

/-! ## The measurement commands and the timers -/

theorem counterAfter_range {c q : Int} (h : Config.chargeMin ≤ c ∧ c ≤ Config.chargeMax) :
    Config.chargeMin ≤ counterAfter c q ∧ counterAfter c q ≤ Config.chargeMax := by
  unfold counterAfter
  split_ifs with hpast
  · exact h
  · omega

theorem dividePulse_keeps (dir : Direction) (s : State) : Keeps s (dividePulse dir s) := by
  have hcount (residue q : Int) : Keeps s (s.setRet { s.ret with residue := residue, charge := counterAfter s.ret.charge q }) :=
    .setRet s rfl rfl fun ⟨h1, h2, h3, h4, h5⟩ =>
      ⟨(counterAfter_range ⟨h1, h2⟩).1, (counterAfter_range ⟨h1, h2⟩).2, h3, h4, h5⟩
  unfold dividePulse
  exact .ite (fun _ => (hcount _ _).trans (continuityBreak_keeps _)) fun _ => hcount _ _

theorem closeWindow_keeps (rec : SampleRecord) (s : State) : Keeps s (closeWindow rec s) := .setFe s _

theorem deliverRecord_keeps (rec : SampleRecord) (s : State) : Keeps s (deliverRecord rec s) :=
  ((restTakesRecord_keeps rec s).trans (pulseTakesRecord_keeps rec _)).trans (pairTest_keeps _ _)

theorem nextSecond_le {n : Nat} (h : n ≤ Config.secondsMax) : nextSecond n ≤ Config.secondsMax := by
  unfold nextSecond
  split_ifs
  · assumption
  · exact h

theorem advanceSeconds_keeps (s : State) : Keeps s
    (s.setDom { s.dom with seconds := nextSecond s.dom.seconds, secondsCopy := nextSecond s.dom.secondsCopy }) :=
  ⟨rfl, rfl, rfl, rfl, fun ⟨h1, h2, h3⟩ => ⟨h1, h2, congrArg nextSecond h3⟩, .refl _, id, fun _ => id, id, id,
    fun ⟨h1, h2⟩ => ⟨nextSecond_le h1, nextSecond_le h2⟩⟩

theorem temperatureSample_keeps (t : Int) (s : State) : Keeps s (temperatureSample t s) := by
  unfold temperatureSample
  exact .ite (fun _ => (Keeps.setFe s _).trans (capture_keeps _)) fun _ => .setFe s _

theorem restTimerEnds_keeps (s : State) : Keeps s (restTimerEnds s) := by
  have hstop : Keeps s (s.setRest { s.rest with restTimer := none }) := .setRest s _
  unfold restTimerEnds
  dsimp only
  split
  · exact .ite (fun _ => hstop.trans (capture_keeps _)) fun _ => hstop.trans (.setRest _ _)
  · exact hstop.trans (enterRested_keeps _)
  all_goals exact hstop

theorem offerSelfDischarge_keeps (s : State) : Keeps s (offerSelfDischarge s) := by
  unfold offerSelfDischarge
  split
  · exact (Keeps.setRest s _).trans (takeSelfDischarge_keeps _ _ _ _)
  · exact .setRest s _

theorem longRestEnds_keeps (s : State) : Keeps s (longRestEnds s) := by
  have hoffer : Keeps s (offerSelfDischarge (s.setRest { s.rest with longTimer := none })) :=
    (Keeps.setRest s _).trans (offerSelfDischarge_keeps _)
  unfold longRestEnds
  exact .ite (fun _ => hoffer.trans (capture_keeps _)) fun _ => hoffer.trans (enterRested_keeps _)

theorem removePoint_keeps (time : Nat) (s : State) : Keeps s (removePoint time s) := by
  unfold removePoint
  refine .ite (fun _ => (setPoints_keeps s fun h => ?_).trans (examinePair_keeps _)) fun _ => .refl s
  exact List.eraseP_sublist.length_le.trans h

theorem takeRemoval_keeps (s : State) : Keeps s (takeRemoval s) := by
  unfold takeRemoval
  split
  · exact (Keeps.setRest s _).trans (removePoint_keeps _ _)
  · exact .refl s

theorem withoutEntry_keeps (n : Nat) (s : State) :
    Keeps s (s.setTable { s.table with entries := withoutEntry s.table.entries n }) :=
  .setTable s fun h => h.sublist (withoutEntry_sublist _ n)

theorem endMarks_keeps (n : Nat) (s : State) :
    Keeps s (s.setTable { s.table with entries := s.table.entries.map (fun e =>
      if e.number = n then endMark (prof s) s.seconds e else e) }) := by
  refine .setTable s fun h => map_ordered h (fun e => ?_) fun e => ?_ <;> split_ifs
  · exact endMark_number _ _ e
  · rfl
  · exact endMark_score _ _ e
  · rfl

theorem proposeToHead_keeps {s : State} (hs : engagedState s.ret.bondState = false) : Keeps s (proposeToHead s) := by
  unfold proposeToHead
  split
  · exact (offer_keeps _ s).trans (enterProposing_keeps _ _ hs)
  · exact .refl s

theorem replyTimerEnds_keeps (s : State) : Keeps s (replyTimerEnds s) := by
  unfold replyTimerEnds
  split
  · exact disengageMarked_keeps _ _ s
  · exact disengage_keeps s rfl

/-- A frozen BONDED engine whose partner timer has expired is BONDED-SILENT (R153). -/
theorem bondedSilent_keeps {s : State} (hb : s.ret.bondState = .bonded) :
    Keeps s ((setBondState .bondedSilent s.ret.engaged s).setBond { s.bond with partnerTimer := none }) := by
  refine ⟨rfl, rfl, rfl, rfl, id, .refl _, id, fun hr h => ?_, fun h => ?_, id, id⟩
  · obtain ⟨hreply, hhold, -, -, htaken⟩ := h
    rw [hb] at hreply hhold htaken
    refine ⟨fun h => ?_, fun h => ?_, fun h => ?_, fun _ => ⟨hr, rfl⟩, fun h => ?_⟩
    · cases (hreply h).2
    · cases (hhold h).2
    · cases h
    · cases (htaken h).2
  · rw [hb] at h
    exact h

end Sys2Proof.Machine
end

section
/-! SUPPORT. What a command can do: the state stands, or one of the effects of `Effect` is settled (R1 to R192, one inversion for
all 49 rows). With it the step, the completion of every command, and the seven invariants. Settles O1, O2, and O4 to O10. -/

namespace Sys2Proof.Machine

variable {c : Instr} {s t u : State}

/-! ## The effects of a command -/

theorem inRun_iff (s : State) : inRun s = true ↔ s.supply.state = .run := by simp [inRun]

/-- One more second in both copies of the counter (R189). -/
def advanceSeconds (s : State) : State :=
  s.setDom { s.dom with seconds := nextSecond s.dom.seconds, secondsCopy := nextSecond s.dom.secondsCopy }

/-- A start from `s`: of the kind COLD, or from a domain that holds what the node left in it; `s'` is `s` with the RESET line as
the command leaves it (R184, R185). -/
structure StartsFrom (c : Instr) (k : StartKind) (i : StartInputs) (s s' : State) : Prop where
  outside : inRun s = false
  trusted : k = .cold ∨ domainTrusted s = true
  upset : (i.upset.map domainPlausible).getD true = upsetPlausible c
  pins : s' = s ∨ s' = setResetLine false s

/-- What a command may do before the end of its event. -/
inductive Effect (c : Instr) (s : State) : State → Prop where
  | blocks {u : State} (hr : inRun s = true) (h : Keeps s u) : Effect c s u
  | second : Effect c s (advanceSeconds s)
  | chainIn (level : Bool) : Effect c s (setChainIn level s)
  | chainWait (hr : inRun s = true) : Effect c s (enterQuietWait (setChainIn true s))
  | resetLine (level : Bool) : Effect c s (setResetLine level s)
  | hold (hr : inRun s = true) : Effect c s (enterHold s)
  | reset (hr : inRun s = true) : Effect c s (enterReset (leaveRun (setResetLine true s)))
  | resetInHold (hs : s.supply.state = .hold) : Effect c s (enterReset (setResetLine true s))
  | heldInReset (hs : s.supply.state = .off) : Effect c s (setSupplyState .reset .cold s)
  | lost (hs : s.supply.state = .hold ∨ s.supply.state = .reset) : Effect c s (loseDomain (setSupplyState .off .cold s))
  | start {k : StartKind} {i : StartInputs} {s' : State} (h : StartsFrom c k i s s') : Effect c s (startWith k i s')

/-- The state stands, or an effect is settled. -/
def Acts (c : Instr) (s t : State) : Prop := t = s ∨ ∃ u, Effect c s u ∧ t = settle u

theorem Acts.blocks (hr : inRun s = true) (h : Keeps s u) : Acts c s (settle u) := .inr ⟨u, .blocks hr h, rfl⟩

theorem Acts.effect (h : Effect c s u) : Acts c s (settle u) := .inr ⟨u, h, rfl⟩

/-- A guarded command of the blocks in RUN. -/
theorem acts_of_whenever {p : Bool} {n : State} (hp : p = true → inRun s = true) (hn : p = true → Keeps s n)
    (h : whenever p s n = .next t) : Acts c s t := by
  rcases whenever_next h with ⟨hpt, rfl⟩ | ⟨-, rfl⟩
  · exact .blocks (hp hpt) (hn hpt)
  · exact .inl rfl

theorem acts_of_lineStep {bits : List Bool} {shown : State → Bool} {effect : State → State}
    (he : ∀ u, Keeps u (effect u)) (h : lineStep bits shown effect s = .next t) : Acts c s t := by
  rcases lineStep_next h with ⟨hr, -, rfl⟩ | ⟨hr, -, rfl⟩ | ⟨-, rfl⟩
  · exact .blocks hr ((sampled_keeps bits s).trans (he _))
  · exact .blocks hr (sampled_keeps bits s)
  · exact .inl rfl

theorem acts_of_frameStep {row : Frame → Bool} {handOn : Frame → State → State} (he : ∀ f u, Keeps u (handOn f u))
    (h : frameStep row handOn s = .next t) : Acts c s t := by
  have htaken := takeInHand_keeps s
  rcases frameStep_next h with ⟨f, -, hr, -, -, rfl⟩ | ⟨f, -, hr, -, -, rfl⟩ | rfl
  · exact .blocks hr ((htaken.trans (he f _)).trans (putDown_keeps _))
  · exact .blocks hr (htaken.trans (putDown_keeps _))
  · exact .inl rfl

theorem inRun_of_and {p : Bool} (h : (inRun s && p) = true) : inRun s = true := (Bool.and_eq_true_iff.1 h).1

theorem inRun_of_and_and {p q : Bool} (h : (inRun s && p && q) = true) : inRun s = true :=
  inRun_of_and (Bool.and_eq_true_iff.1 h).1

theorem execSecondsCounterIncrement_acts {tsense : Int} (h : execSecondsCounterIncrement tsense s = .next t) :
    Acts c s t := by
  rcases whenever_next h with ⟨-, rfl⟩ | ⟨-, rfl⟩
  · by_cases hr : inRun s = true
    · rw [if_pos hr]
      exact .blocks hr ((advanceSeconds_keeps s).trans (temperatureSample_keeps _ _))
    · rw [if_neg hr]
      exact .effect .second
  · exact .inl rfl

theorem execPartnerTimerExpiry_acts (h : execPartnerTimerExpiry s = .next t) : Acts c s t := by
  refine acts_of_whenever inRun_of_and_and (fun hp => ?_) h
  have hb : s.ret.bondState = .bonded := by simpa using (Bool.and_eq_true_iff.1 hp).2
  exact .ite (fun _ => bondedSilent_keeps hb) fun _ => disengage_keeps s rfl

theorem execProposalTimerExpiry_acts (h : execProposalTimerExpiry s = .next t) : Acts c s t := by
  refine acts_of_whenever inRun_of_and (fun _ => ?_) h
  have htimer : Keeps s (s.setBond { s.bond with proposalTimer := some ((prof s).proposalInterval * 1000) }) :=
    .setBond_of_same s rfl rfl rfl rfl rfl
  refine .ite (fun hf => htimer.trans (proposeToHead_keeps ?_)) fun _ => htimer
  exact congrArg engagedState hf.1

theorem execSupplyAtRunLevel_acts {i : StartInputs} (h : execSupplyAtRunLevel i s = .next t) :
    Acts (.supplyAtRunLevel i) s t := by
  unfold execSupplyAtRunLevel at h
  split at h
  case h_1 hs =>
    cases Host.Outcome.next.inj h
    split_ifs
    · exact .effect (.heldInReset hs)
    · exact .effect (.start ⟨by simp [inRun, hs], .inl rfl, rfl, .inl rfl⟩)
  case h_2 hs =>
    cases Host.Outcome.next.inj h
    exact .effect (.start ⟨by simp [inRun, hs], .inr (by simp [domainTrusted, hs]), rfl, .inl rfl⟩)
  case h_3 hs =>
    split_ifs at h
    · exact .inl (Host.Outcome.next.inj h).symm
    · cases Host.Outcome.next.inj h
      refine .effect (.start ⟨by simp [inRun, hs], ?_, rfl, .inl rfl⟩)
      simpa [domainTrusted, hs] using Decidable.em (s.supply.kind = .cold)
  all_goals exact .inl (Host.Outcome.next.inj h).symm

theorem execResetReleased_acts {level : Bool} {i : StartInputs} (h : execResetReleased level i s = .next t) :
    Acts (.resetReleased level i) s t := by
  unfold execResetReleased at h
  cases Host.Outcome.next.inj h
  split_ifs with hstart
  · have hs := hstart.1
    refine .effect (.start ⟨by simp [inRun, hs], ?_, rfl, .inr rfl⟩)
    simpa [domainTrusted, hs] using Decidable.em (s.supply.kind = .cold)
  · exact .effect (.resetLine false)

theorem execResetAsserted_acts (h : execResetAsserted s = .next t) : Acts c s t := by
  unfold execResetAsserted at h
  dsimp only at h
  split at h <;> cases Host.Outcome.next.inj h
  case h_1 hs => exact .effect (.reset ((inRun_iff s).2 hs))
  case h_2 hs => exact .effect (.resetInHold hs)
  all_goals exact .effect (.resetLine true)

theorem execChainInActive_acts (h : execChainInActive s = .next t) : Acts c s t := by
  unfold execChainInActive at h
  dsimp only at h
  cases Host.Outcome.next.inj h
  split_ifs with hw
  · exact .effect (.chainWait (inRun_of_and (s := s) hw))
  · exact .effect (.chainIn true)

theorem execSupplyBelowHoldLevel_acts (h : execSupplyBelowHoldLevel s = .next t) : Acts c s t := by
  rcases whenever_next h with ⟨hr, rfl⟩ | ⟨-, rfl⟩
  · exact .effect (.hold hr)
  · exact .inl rfl

theorem holdsDomain_iff (st : SupplyState) : holdsDomain st = true ↔ st = .hold ∨ st = .reset := by
  cases st <;> simp [holdsDomain]

theorem execSupplyBelowRetentionLimit_acts (h : execSupplyBelowRetentionLimit s = .next t) : Acts c s t := by
  rcases whenever_next h with ⟨hd, rfl⟩ | ⟨-, rfl⟩
  · exact .effect (.lost ((holdsDomain_iff _).1 hd))
  · exact .inl rfl

/-- Every command lets the state stand or settles one of the effects. -/
theorem exec_acts (h : exec c s = .next t) : Acts c s t := by
  cases c with
  | chargePulse dir =>
    exact acts_of_whenever id (fun _ => (Keeps.setFe s _).trans (dividePulse_keeps dir _)) h
  | windowClose v =>
    exact acts_of_whenever inRun_of_and (fun _ => (closeWindow_keeps _ s).trans (deliverRecord_keeps _ _)) h
  | secondsCounterIncrement tsense => exact execSecondsCounterIncrement_acts h
  | restTimerExpiry => exact acts_of_whenever inRun_of_and (fun _ => restTimerEnds_keeps s) h
  | removalRequest => exact acts_of_whenever inRun_of_and (fun _ => takeRemoval_keeps s) h
  | longRestExpiry => exact acts_of_whenever inRun_of_and_and (fun _ => longRestEnds_keeps s) h
  | peerAgeRemoval n => exact acts_of_whenever inRun_of_and (fun _ => withoutEntry_keeps n s) h
  | declineMarkExpiry n => exact acts_of_whenever inRun_of_and (fun _ => endMarks_keeps n s) h
  | announceTimerExpiry =>
    exact acts_of_whenever inRun_of_and (fun _ => (Keeps.setFp s _).trans (offer_keeps _ _)) h
  | proposalTimerExpiry => exact execProposalTimerExpiry_acts h
  | replyTimerExpiry => exact acts_of_whenever inRun_of_and_and (fun _ => replyTimerEnds_keeps s) h
  | holdTimerExpiry => exact acts_of_whenever inRun_of_and_and (fun _ => disengage_keeps s rfl) h
  | partnerTimerExpiry => exact execPartnerTimerExpiry_acts h
  | quietTimerExpiry => exact acts_of_whenever inRun_of_and_and (fun _ => chainedClaim_keeps s) h
  | requestTimerExpiry =>
    exact acts_of_whenever inRun_of_and_and (fun _ => (Keeps.setComm s _).trans (offer_keeps _ _)) h
  | holdoffExpiry => exact acts_of_whenever inRun_of_and_and (fun _ => .setLink s (afterHoldoff_kept _)) h
  | attemptBegin bits => exact acts_of_lineStep beginAttempt_keeps h
  | arbitrationLoss bits => exact acts_of_lineStep loseAttempt_keeps h
  | transmitLineFault bits => exact acts_of_lineStep faultAttempt_keeps h
  | attemptComplete bits => exact acts_of_lineStep completeAttempt_keeps h
  | stuckDominantLine bits => 
    exact acts_of_lineStep (shown := fun s => s.link.stuckDue)
      (effect := fun s => s.setLink { s.link with lineFault := true, stuckDue := false })
      (fun u => .setLink u (.of_eq rfl rfl rfl)) h
  | busReset bits => exact acts_of_lineStep (shown := fun s => s.link.resetDue) takeBusReset_keeps h
  | receiveAbort bits => exact acts_of_lineStep (shown := fun _ => true) .refl h
  | frameReceived bits => exact acts_of_lineStep (shown := fun s => !s.link.closed.isEmpty) judgeClosed_keeps h
  | unknownKind => exact acts_of_frameStep (fun _ => .refl) h
  | enum => exact acts_of_frameStep handEnum_keeps h
  | announce => exact acts_of_frameStep handAnnounce_keeps h
  | propose => exact acts_of_frameStep handPropose_keeps h
  | accept => exact acts_of_frameStep handAccept_keeps h
  | decline => exact acts_of_frameStep handDecline_keeps h
  | confirm => exact acts_of_frameStep handConfirm_keeps h
  | release => exact acts_of_frameStep handRelease_keeps h
  | query => exact acts_of_frameStep handQuery_keeps h
  | grade => exact acts_of_frameStep (fun _ => .refl) h
  | campaignStart => exact acts_of_frameStep (handCampaign_keeps takeStart_keeps) h
  | campaignFreeze => exact acts_of_frameStep (handCampaign_keeps takeFreeze_keeps) h
  | campaignRegrade => exact acts_of_frameStep (handCampaign_keeps takeRegrade_keeps) h
  | campaignReleaseAll => exact acts_of_frameStep (handCampaign_keeps takeReleaseAll_keeps) h
  | campaignUnknownAction => exact acts_of_frameStep (handCampaign_keeps .refl) h
  | profileRequest => exact acts_of_frameStep handRequest_keeps h
  | profileSegment => exact acts_of_frameStep handSegment_keeps h
  | chainInActive => exact execChainInActive_acts h
  | supplyAtRunLevel i => exact execSupplyAtRunLevel_acts h
  | supplyBelowHoldLevel => exact execSupplyBelowHoldLevel_acts h
  | supplyBelowRetentionLimit => exact execSupplyBelowRetentionLimit_acts h
  | resetAsserted => exact execResetAsserted_acts h
  | resetReleased level i => exact execResetReleased_acts h
  | openingDelimiter bits => exact acts_of_lineStep (shown := fun _ => true) .refl h
  | chainInInactive =>
    cases Host.Outcome.next.inj h
    exact .effect (.chainIn false)

/-! ## The start -/

theorem resumeCommissioning_keeps (s : State) : Keeps s (resumeCommissioning s) := by
  unfold resumeCommissioning
  split
  · exact .via (linkUp_keeps _) (.setComm _ _)
  · exact enterNumbering_keeps _

/-- What a start goes on from, before the blocks enter RUN: the cold domain, or what the domain reads (R186). -/
theorem startAs_keeps (k : StartKind) (i : StartInputs) (s : State) :
    ∃ x, Keeps (enterRun x) (startAs k i s) ∧ x.pending = s.pending ∧ x.supply = s.supply ∧ x.pins = s.pins
      ∧ (x.dom = coldDomain ∨ (k ≠ .cold ∧ Keeps s x)) := by
  cases k with
  | cold =>
    exact ⟨s.setDom coldDomain, (Keeps.setFe _ _).trans (loadProfile_keeps i _), rfl, rfl, rfl, .inl rfl⟩
  | restart =>
    refine ⟨continuityBreak s, ?_, rfl, rfl, rfl, .inr ⟨by decide, continuityBreak_keeps s⟩⟩
    exact .via (loadProfile_keeps i _) <| .via (.setFe _ _) (.setRet _ rfl rfl id)
  | warm =>
    refine ⟨s, ?_, rfl, rfl, rfl, .inr ⟨by decide, .refl s⟩⟩
    unfold startAs
    exact .ite (fun _ => .via (resumeCommissioning_keeps _) <| .via (startBond_keeps _) (.setFe _ _)) fun _ =>
      .via (loadProfile_keeps i _) (.setFe _ _)

theorem retentionPasses_iff (d : Domain) :
    retentionPasses d = true ↔ WordsAgree d ∧ retentionCheck d.ret = d.check := by
  simp [retentionPasses, WordsAgree, and_assoc]

theorem retentionPasses_of_decideStart {k : StartKind} {d : Domain} (h : decideStart k d ≠ .cold) :
    retentionPasses d = true ∧ k ≠ .cold := by
  cases k <;> simp_all [decideStart]

/-- The domain a start goes on with: cold, or one that passed its check, the one kept or one that an upset has left. -/
theorem startWith_keeps (k : StartKind) (i : StartInputs) (s : State) :
    ∃ x, Keeps (enterRun x) (startWith k i s) ∧ x.pending = s.pending ∧ x.pins = s.pins
      ∧ (x.dom = coldDomain ∨ (k ≠ .cold ∧ retentionPasses (i.upset.getD s.dom) = true
          ∧ Keeps (domainAtStart i (setSupplyState .start k s)) x)) := by
  obtain ⟨x, hx, hpending, -, hpins, hdom⟩ :=
    startAs_keeps (decideStart k (i.upset.getD s.dom)) i (domainAtStart i (setSupplyState .start k s))
  refine ⟨x, hx, hpending, hpins, hdom.imp_right fun ⟨hk, hkeeps⟩ => ?_⟩
  obtain ⟨hpasses, hkind⟩ := retentionPasses_of_decideStart hk
  exact ⟨hkind, hpasses, hkeeps⟩

/-- At the entry to RUN nothing of an engagement runs, the table is empty, and the link is fresh (R37, R84, R137, R164). -/
theorem enterRun_fresh (s : State) :
    (enterRun s).supply = ⟨.run, s.supply.kind⟩ ∧ (enterRun s).bond.Stopped ∧ (enterRun s).table.entries = []
      ∧ (enterRun s).link = { stoppedLink with receiver := freshReceiver .hunt } ∧ (enterRun s).pending = s.pending
      ∧ (enterRun s).pins = s.pins ∧ (enterRun s).free = s.free :=
  ⟨rfl, ⟨rfl, rfl, rfl, rfl, rfl⟩, rfl, rfl, rfl, rfl, rfl⟩

theorem enterRun_inRun (s : State) : inRun (enterRun s) = true := rfl

/-- A kept bond keeps its partner, anything else leaves none (R164). -/
theorem enterRun_engaged (s : State) (h : s.ret.engaged.isSome = engagedState s.ret.bondState) :
    (enterRun s).ret.engaged.isSome = engagedState (enterRun s).ret.bondState := by
  show (if bondStands (keptBondState s.ret.bondState) then s.ret.engaged else none).isSome
    = engagedState (keptBondState s.ret.bondState)
  cases hb : s.ret.bondState <;> simp_all [keptBondState, bondStands, engagedState]

/-- The entry to RUN touches the engagement alone of the retained domain. -/
theorem enterRun_dom (s : State) :
    (WordsAgree s.dom → WordsAgree (enterRun s).dom) ∧ (CountsInRange s.ret → CountsInRange (enterRun s).ret)
      ∧ (CopiesInRange s.dom → CopiesInRange (enterRun s).dom) := ⟨id, id, id⟩

/-- A plausible start ends in RUN with every invariant of the retained domain. -/
theorem startWith_sound (k : StartKind) (i : StartInputs) (s : State) :
    inRun (startWith k i s) = true ∧ WordsAgree (startWith k i s).dom := by
  obtain ⟨x, hx, -, -, hdom⟩ := startWith_keeps k i s
  refine ⟨hx.inRun.trans (enterRun_inRun x), hx.words ((enterRun_dom x).1 ?_)⟩
  rcases hdom with hcold | ⟨-, hpasses, hkeeps⟩
  · rw [hcold]
    exact ⟨rfl, rfl, rfl⟩
  · exact hkeeps.words ((retentionPasses_iff _).1 hpasses).1

/-! ## The end of the event -/

theorem settle_pins (s : State) : (settle s).pins = (drivePins (feedSegment s)).pins := by
  unfold settle
  rcases reseal_cases (drivePins (feedSegment s)) with h | h <;> rw [h]
  rfl

theorem settle_words_iff (s : State) : WordsAgree (settle s).dom ↔ WordsAgree s.dom := by
  obtain ⟨h1, h2, h3, h4⟩ := settle_words s
  unfold WordsAgree
  rw [h1, h2, h3, h4]

/-- No segment feed begins an attempt. -/
theorem settle_sending (s : State) (h : (settle s).link.transmitter = .sending) : s.link.transmitter = .sending := by
  rw [settle_link] at h
  rcases feedSegment_cases s with hf | ⟨i, -, -, -, -, hf⟩ <;> rw [hf] at h
  · exact h
  · cases ht : s.link.transmitter <;> simp [transmitterFollows, ht] at h ⊢

@[simp] theorem settle_inRun (s : State) : inRun (settle s) = inRun s := by
  unfold inRun
  rw [settle_supply]

@[simp] theorem settle_domainTrusted (s : State) : domainTrusted (settle s) = domainTrusted s := by
  unfold domainTrusted
  rw [settle_supply]

/-! ## The step -/

/-- A step idles, or the command at the front acts. -/
theorem step_acts (h : step s = .next t) :
    t = s ∨ ∃ c rest, s.pending = c :: rest ∧ Acts c (s.setPending rest) t := by
  unfold step at h
  split at h
  case h_1 c rest hp => exact .inr ⟨c, rest, hp, exec_acts h⟩
  case h_2 => exact .inl (Host.Outcome.next.inj h).symm

/-- A property that the queue of commands does not matter to, and that every settled effect keeps, is kept by every step. -/
theorem kept_of_effects {P : State → Prop} (hq : ∀ s q, P s → P (s.setPending q))
    (he : ∀ c s u, P s → Effect c s u → P (settle u)) (hs : P s) (h : step s = .next t) : P t := by
  rcases step_acts h with rfl | ⟨c, rest, -, rfl | ⟨u, hu, rfl⟩⟩
  · exact hs
  · exact hq s rest hs
  · exact he c _ u (hq s rest hs) hu

end Sys2Proof.Machine
end

section
/-! SUPPORT. The step, the completion of every command, and the invariants, from the effects of `Effect`. Settles O1, O2, and O4
to O10. -/

namespace Sys2Proof.Machine

variable {c : Instr} {s t u : State}

/-! ## Every command completes -/

theorem loadProfile_pending (i : StartInputs) (s : State) : (loadProfile i s).pending = s.pending :=
  (loadProfile_keeps i s).pending

/-- No effect touches the queue of commands. -/
theorem Effect.pending (h : Effect c s u) : u.pending = s.pending := by
  cases h with
  | blocks hr h => exact h.pending
  | start h =>
    obtain ⟨x, hx, hpending, -⟩ := startWith_keeps _ _ _
    rw [hx.pending, (enterRun_fresh x).2.2.2.2.1, hpending]
    rcases h.pins with rfl | rfl <;> rfl
  | _ => rfl

theorem lineStep_outside {bits : List Bool} {shown : State → Bool} {effect : State → State} (h : inRun s = false) :
    lineStep bits shown effect s = .next s := by
  simp [lineStep, h]

theorem frameStep_outside {row : Frame → Bool} {handOn : Frame → State → State} (h : inRun s = false) :
    frameStep row handOn s = .next s := by
  unfold frameStep
  split <;> simp [h]

theorem whenever_outside {p : Bool} {n : State} (h : inRun s = false) : whenever (inRun s && p) s n = .next s := by
  simp [h]

theorem whenever_outside_and {p q : Bool} {n : State} (h : inRun s = false) :
    whenever (inRun s && p && q) s n = .next s := by
  simp [h]

/-- The seven commands of the supply, the pins and the seconds, which have an effect outside RUN. -/
def actsOutside (c : Instr) : Prop :=
  match c with
  | .secondsCounterIncrement _ => True
  | .chainInActive => True
  | .chainInInactive => True
  | .supplyAtRunLevel _ => True
  | .supplyBelowRetentionLimit => True
  | .resetAsserted => True
  | .resetReleased _ _ => True
  | _ => False

/-- R188: outside RUN the blocks have stopped. -/
theorem exec_outside (hr : inRun s = false) (hc : ¬ actsOutside c) : exec c s = .next s := by
  cases c with
  | secondsCounterIncrement _ => exact absurd trivial hc
  | chainInActive => exact absurd trivial hc
  | chainInInactive => exact absurd trivial hc
  | supplyAtRunLevel _ => exact absurd trivial hc
  | supplyBelowRetentionLimit => exact absurd trivial hc
  | resetAsserted => exact absurd trivial hc
  | resetReleased _ _ => exact absurd trivial hc
  | chargePulse _ => simp [exec, execChargePulse, hr]
  | supplyBelowHoldLevel => simp [exec, execSupplyBelowHoldLevel, hr]
  | attemptBegin _ => simp only [exec, execAttemptBegin, lineStep_outside hr]
  | arbitrationLoss _ => simp only [exec, execArbitrationLoss, lineStep_outside hr]
  | transmitLineFault _ => simp only [exec, execTransmitLineFault, lineStep_outside hr]
  | attemptComplete _ => simp only [exec, execAttemptComplete, lineStep_outside hr]
  | stuckDominantLine _ => simp only [exec, execStuckDominantLine, lineStep_outside hr]
  | busReset _ => simp only [exec, execBusReset, lineStep_outside hr]
  | receiveAbort _ => simp only [exec, execReceiveAbort, lineStep_outside hr]
  | frameReceived _ => simp only [exec, execFrameReceived, lineStep_outside hr]
  | openingDelimiter _ => simp only [exec, execOpeningDelimiter, lineStep_outside hr]
  | windowClose _ => simp only [exec, execWindowClose, whenever_outside hr]
  | restTimerExpiry => simp only [exec, execRestTimerExpiry, whenever_outside hr]
  | removalRequest => simp only [exec, execRemovalRequest, whenever_outside hr]
  | longRestExpiry => simp only [exec, execLongRestExpiry, whenever_outside_and hr]
  | peerAgeRemoval _ => simp only [exec, execPeerAgeRemoval, whenever_outside hr]
  | declineMarkExpiry _ => simp only [exec, execDeclineMarkExpiry, whenever_outside hr]
  | announceTimerExpiry => simp only [exec, execAnnounceTimerExpiry, whenever_outside hr]
  | proposalTimerExpiry => simp only [exec, execProposalTimerExpiry, whenever_outside hr]
  | replyTimerExpiry => simp only [exec, execReplyTimerExpiry, whenever_outside_and hr]
  | holdTimerExpiry => simp only [exec, execHoldTimerExpiry, whenever_outside_and hr]
  | partnerTimerExpiry => simp only [exec, execPartnerTimerExpiry, whenever_outside_and hr]
  | quietTimerExpiry => simp only [exec, execQuietTimerExpiry, whenever_outside_and hr]
  | requestTimerExpiry => simp only [exec, execRequestTimerExpiry, whenever_outside_and hr]
  | holdoffExpiry => simp only [exec, execHoldoffExpiry, whenever_outside_and hr]
  | unknownKind => simp only [exec, execUnknownKind, frameStep_outside hr]
  | enum => simp only [exec, execEnum, frameStep_outside hr]
  | announce => simp only [exec, execAnnounce, frameStep_outside hr]
  | propose => simp only [exec, execPropose, frameStep_outside hr]
  | accept => simp only [exec, execAccept, frameStep_outside hr]
  | decline => simp only [exec, execDecline, frameStep_outside hr]
  | confirm => simp only [exec, execConfirm, frameStep_outside hr]
  | release => simp only [exec, execRelease, frameStep_outside hr]
  | query => simp only [exec, execQuery, frameStep_outside hr]
  | grade => simp only [exec, execGrade, frameStep_outside hr]
  | campaignStart => simp only [exec, execCampaignStart, frameStep_outside hr]
  | campaignFreeze => simp only [exec, execCampaignFreeze, frameStep_outside hr]
  | campaignRegrade => simp only [exec, execCampaignRegrade, frameStep_outside hr]
  | campaignReleaseAll => simp only [exec, execCampaignReleaseAll, frameStep_outside hr]
  | campaignUnknownAction => simp only [exec, execCampaignUnknownAction, frameStep_outside hr]
  | profileRequest => simp only [exec, execProfileRequest, frameStep_outside hr]
  | profileSegment => simp only [exec, execProfileSegment, frameStep_outside hr]

/-- Settles O1: the step's match on the queue. -/
theorem stepTakesTheFront : Obligations.StepTakesTheFront := fun _ _ _ => ⟨rfl, rfl⟩

/-- Settles O2: every command lets the state stand or settles an effect, and no effect touches the queue of commands. -/
theorem everyCommandCompletes : Obligations.EveryCommandCompletes := by
  intro c s
  constructor
  · obtain ⟨t, ht⟩ : ∃ t, exec c s = .next t := by
      rcases exec_settles s c with h | ⟨x, h⟩
      · exact ⟨s, h⟩
      · exact ⟨_, h⟩
    refine ⟨t, ht, ?_⟩
    rcases exec_acts ht with rfl | ⟨u, hu, rfl⟩
    · rfl
    · rw [settle_pending, hu.pending]
  · intro hr hc
    refine exec_outside hr fun hact => ?_
    cases c
    all_goals first
      | exact hc
      | exact hact

/-! ## The pins -/

/-- Each driven pin at its level. -/
theorem PinsFollow.levels (h : PinsFollow s) :
    s.pins.chainOut = chainOutLevel s ∧ s.pins.load = loadLevel s ∧ s.pins.alert = alertLevel s
      ∧ s.pins.busDominant = busLevel s ∧ s.pins.scs = false := by
  have hpins : (drivePins s).pins = s.pins := congrArg State.pins h
  exact ⟨(congrArg Pins.chainOut hpins).symm, (congrArg Pins.load hpins).symm, (congrArg Pins.alert hpins).symm,
    (congrArg Pins.busDominant hpins).symm, (congrArg Pins.scs hpins).symm⟩

theorem alertLevel_iff (s : State) : alertLevel s = true ↔ s.supply.state = .run ∧
    (s.comm.state = .failed ∨ s.comm.numbering = some .conflict ∨ s.comm.numbering = some .noNumber
      ∨ s.link.lineFault = true) := by
  simp [alertLevel, inRun, or_assoc]

theorem loadLevel_driven (hr : s.supply.state = .run) (hf : s.ret.inForce = true) :
    (loadLevel s = .high ∨ loadLevel s = .low)
      ∧ (loadLevel s = .high ↔ (s.pulse.state = .pulsing ↔ (prof s).loadActiveLow = false)) := by
  have hlevel : loadLevel s = if decide (s.pulse.state = .pulsing) = !(prof s).loadActiveLow then .high else .low := by
    simp [loadLevel, inRun, hr, hf]
  rw [hlevel]
  by_cases hp : s.pulse.state = .pulsing <;> cases (prof s).loadActiveLow <;> simp [hp]

theorem loadLevel_undriven (h : s.supply.state ≠ .run ∨ s.ret.inForce = false) : loadLevel s = .undriven := by
  refine if_neg fun ⟨hr, hf⟩ => ?_
  rcases h with h | h
  · exact h ((inRun_iff s).1 hr)
  · simp [h] at hf

theorem chainedOut_iff (n : Option NumberingState) :
    chainedOut n = true ↔ n = some .numbered ∨ n = some .conflict ∨ n = some .noNumber := by
  unfold chainedOut
  split <;> simp

theorem chainOutLevel_outside (h : s.supply.state ≠ .run) : chainOutLevel s = false :=
  if_neg fun hr => h ((inRun_iff s).1 hr)

/-- CHAIN-OUT in RUN, by the commissioning state (R170, R176, R177, R179 to R182). -/
theorem chainOutLevel_run (hr : s.supply.state = .run) :
    chainOutLevel s = match s.comm.state with
      | .loading => false
      | .awaitingProfile => false
      | .failed => s.pins.chainIn
      | .numbering => if s.comm.method = some .chained then chainedOut s.comm.numbering else s.pins.chainIn
      | .ready => if s.comm.method = some .chained then chainedOut s.comm.numbering else s.pins.chainIn :=
  if_pos ((inRun_iff s).2 hr)

theorem chainOutLevel_numbered (hr : s.supply.state = .run) (hs : s.comm.state = .numbering ∨ s.comm.state = .ready) :
    chainOutLevel s = if s.comm.method = some .chained then chainedOut s.comm.numbering else s.pins.chainIn := by
  rw [chainOutLevel_run hr]
  rcases hs with hs | hs <;> rw [hs]

theorem busLevel_of_attempt {a : Attempt} (ha : s.link.attempt = some a) :
    busLevel s = true ↔ s.link.transmitter = .sending ∧ a.outcome = none ∧ a.bits[a.sent]? = some false := by
  cases ht : s.link.transmitter <;> simp [busLevel, ha, ht]

theorem busLevel_of_none (ha : s.link.attempt = none) : busLevel s = false := by
  cases ht : s.link.transmitter <;> simp [busLevel, ha, ht]

theorem busLevel_sending (h : busLevel s = true) : s.link.transmitter = .sending := by
  cases ha : s.link.attempt with
  | none => simp [busLevel_of_none ha] at h
  | some a => exact ((busLevel_of_attempt ha).1 h).1

/-- The meaning of each pin in a state whose pins follow it, with a silent transmitter outside RUN. -/
theorem PinsFollow.meaning (hp : PinsFollow t) (hq : SilentOutsideRun t) :
    (t.pins.alert = true ↔ t.supply.state = .run ∧
          (t.comm.state = .failed ∨ t.comm.numbering = some .conflict ∨ t.comm.numbering = some .noNumber
            ∨ t.link.lineFault = true))
      ∧ (t.supply.state = .run → t.ret.inForce = true →
          (t.pins.load = .high ∨ t.pins.load = .low)
            ∧ (t.pins.load = .high ↔ (t.pulse.state = .pulsing ↔ (prof t).loadActiveLow = false)))
      ∧ (t.supply.state ≠ .run ∨ t.ret.inForce = false → t.pins.load = .undriven)
      ∧ (t.supply.state ≠ .run → t.pins.chainOut = false ∧ t.pins.busDominant = false ∧ t.pins.alert = false)
      ∧ (t.supply.state = .run → t.comm.state = .loading ∨ t.comm.state = .awaitingProfile → t.pins.chainOut = false)
      ∧ (t.supply.state = .run → t.comm.state = .failed → t.pins.chainOut = t.pins.chainIn)
      ∧ (t.supply.state = .run → t.comm.state = .numbering ∨ t.comm.state = .ready →
          (t.comm.method = some .chained → (t.pins.chainOut = true ↔ t.comm.numbering = some .numbered
              ∨ t.comm.numbering = some .conflict ∨ t.comm.numbering = some .noNumber))
            ∧ (t.comm.method = some .fixed ∨ t.comm.method = some .retained → t.pins.chainOut = t.pins.chainIn))
      ∧ (t.pins.busDominant = true → t.link.transmitter = .sending)
      ∧ (t.link.attempt = none → t.pins.busDominant = false)
      ∧ (∀ a, t.link.attempt = some a →
          (t.pins.busDominant = true ↔ t.link.transmitter = .sending ∧ a.outcome = none ∧ a.bits[a.sent]? = some false))
      ∧ t.pins.scs = false := by
  obtain ⟨hchain, hload, halert, hbus, hscs⟩ := hp.levels
  rw [hchain, hload, halert, hbus]
  refine ⟨alertLevel_iff t, loadLevel_driven, loadLevel_undriven, fun hr => ?_, fun hr hs => ?_, fun hr hs => ?_,
    fun hr hs => ?_, busLevel_sending, busLevel_of_none, fun a => busLevel_of_attempt, hscs⟩
  · refine ⟨chainOutLevel_outside hr, ?_, ?_⟩
    · exact Bool.eq_false_iff.2 fun h => hq (by simp [inRun, hr]) (busLevel_sending h)
    · exact Bool.eq_false_iff.2 fun h => hr ((alertLevel_iff t).1 h).1
  · rw [chainOutLevel_run hr]
    rcases hs with hs | hs <;> rw [hs]
  · rw [chainOutLevel_run hr, hs]
  · rw [chainOutLevel_numbered hr hs]
    refine ⟨fun hm => ?_, fun hm => if_neg ?_⟩
    · rw [if_pos hm, chainedOut_iff]
    · rcases hm with hm | hm <;> rw [hm] <;> decide

theorem settle_pinsFollow (s : State) : PinsFollow (settle s) := drivePins_settle s

/-- No effect leaves a transmitter in SENDING outside RUN. -/
theorem Effect.silent (hs : SilentOutsideRun s) (h : Effect c s u) : SilentOutsideRun u := by
  cases h with
  | blocks hr h => exact fun hu => absurd (h.inRun.trans hr) (by simp [hu])
  | hold hr => exact fun _ => by simp [enterHold, leaveRun, continuityBreak, stoppedLink]
  | reset hr => exact fun _ => by simp [enterReset, setSupplyState, leaveRun, stoppedLink]
  | resetInHold hold => exact fun _ => hs (by simp [inRun, hold])
  | heldInReset hoff => exact fun _ => hs (by simp [inRun, hoff])
  | lost hdom =>
    refine fun _ => hs ?_
    rcases hdom with hdom | hdom <;> simp [inRun, hdom]
  | start h => exact fun hu => absurd ((startWith_sound _ _ _).1.symm.trans hu) (by decide)
  | _ => exact hs

theorem settle_silent (h : SilentOutsideRun s) : SilentOutsideRun (settle s) :=
  fun hr hsending => h (settle_inRun s ▸ hr) (settle_sending s hsending)

/-- Settles O5: `settle` drives the pins from the state, and only a command in RUN begins an attempt. -/
theorem pinsFollowKept : Obligations.PinsFollowKept := by
  intro s t hp hq hstep
  obtain ⟨hpt, hqt⟩ : PinsFollow t ∧ SilentOutsideRun t :=
    kept_of_effects (P := fun s => PinsFollow s ∧ SilentOutsideRun s)
      (fun s q ⟨hp, hq⟩ => ⟨congrArg (fun x => State.setPending x q) hp, hq⟩)
      (fun c s u ⟨_, hq⟩ hu => ⟨settle_pinsFollow u, settle_silent (hu.silent hq)⟩) ⟨hp, hq⟩ hstep
  exact ⟨hpt, hqt, hpt.meaning hqt⟩

/-! ## The link's limits -/

theorem stoppedLink_kept (l : Link) (r : ReceiverState) : LinkKept l { stoppedLink with receiver := freshReceiver r } :=
  ⟨fun _ => ⟨Nat.zero_le _, Nat.zero_le _, Nat.zero_le _⟩, fun _ => .inl rfl⟩

theorem startWith_link_kept (k : StartKind) (i : StartInputs) (s : State) (l : Link) : LinkKept l (startWith k i s).link := by
  obtain ⟨x, hx, -⟩ := startWith_keeps k i s
  exact (stoppedLink_kept l .hunt).trans ((enterRun_fresh x).2.2.2.1 ▸ hx.link)

theorem Effect.link_kept (h : Effect c s u) : LinkKept s.link u.link := by
  cases h with
  | blocks hr h => exact h.link
  | hold hr => exact stoppedLink_kept _ .off
  | reset hr => exact stoppedLink_kept _ .off
  | start h => exact startWith_link_kept _ _ _ _
  | _ => exact .refl _

/-- Settles O6, from what each operation of the link does to its lengths and its run counts. -/
theorem linkInLimitsKept : Obligations.LinkInLimitsKept := by
  intro s t hstep
  have hsettled : ∀ c s u, Effect c s u → LinkKept s.link (settle u).link := fun c s u hu =>
    settle_link u ▸ hu.link_kept.trans (feedSegment_kept u)
  exact ⟨fun h => kept_of_effects (fun _ _ => id) (fun c s u hs hu => (hsettled c s u hu).limits hs) h hstep,
    fun h => kept_of_effects (fun _ _ => id) (fun c s u hs hu => (hsettled c s u hu).apart hs) h hstep⟩

/-! ## The peer table -/

theorem startWith_table_ordered (k : StartKind) (i : StartInputs) (s : State) : (startWith k i s).table.Ordered := by
  obtain ⟨x, hx, -⟩ := startWith_keeps k i s
  exact hx.table (.empty _)

theorem Effect.table_ordered (hs : s.table.Ordered) (h : Effect c s u) : u.table.Ordered := by
  cases h with
  | blocks hr h => exact h.table hs
  | hold hr => exact .empty _
  | reset hr => exact .empty _
  | start h => exact startWith_table_ordered _ _ _
  | _ => exact hs

/-- Settles O7, from the order of each operation of the table. -/
theorem tableOrderedKept : Obligations.TableOrderedKept := fun _ _ hs hstep =>
  kept_of_effects (P := TableOrdered) (fun _ _ => id)
    (fun _ _ u hs hu => (congrArg PeerTable.Ordered (settle_table u)).mpr (hu.table_ordered hs)) hs hstep

/-! ## The retention domain -/

/-- Where an effect leaves the domain trusted, its words agree. -/
theorem Effect.words (hs : DomainSound s) (h : Effect c s u) (ht : domainTrusted u = true) : WordsAgree u.dom := by
  have hwords (hst : domainTrusted s = true) : WordsAgree s.dom := ((retentionPasses_iff _).1 (hs hst)).1
  cases h with
  | blocks hr h => exact h.words (hwords (by simp [domainTrusted, (inRun_iff s).1 hr]))
  | second => exact (advanceSeconds_keeps s).words (hwords ht)
  | hold hr => exact hwords (by simp [domainTrusted, (inRun_iff s).1 hr])
  | reset hr => exact hwords (by simp [domainTrusted, (inRun_iff s).1 hr])
  | resetInHold hold => exact hwords (by simp [domainTrusted, hold])
  | heldInReset hoff => simp [domainTrusted, setSupplyState] at ht
  | lost hdom => simp [domainTrusted, loseDomain, setSupplyState] at ht
  | start h => exact (startWith_sound _ _ _).2
  | _ => exact hwords ht

/-- Settles O8: the words agree by every effect, and `settle` forms the check value anew. -/
theorem domainSoundKept : Obligations.DomainSoundKept := by
  intro s t hs hstep
  refine kept_of_effects (P := DomainSound) (fun _ _ => id) (fun c s u hs hu htrusted => ?_) hs hstep
  rw [settle_domainTrusted] at htrusted
  have hon : u.supply.state ≠ .off := fun hoff => by simp [domainTrusted, hoff] at htrusted
  refine (retentionPasses_iff _).2 ⟨(settle_words_iff u).2 (hu.words hs htrusted), ?_⟩
  rw [settle_check u hon]
  exact congrArg retentionCheck (settle_ret u)

/-! ## The bond engine's timers -/

/-- Outside RUN nothing of an engagement runs. -/
theorem BondTimersOk.stopped_outside (h : BondTimersOk s) (hr : inRun s = false) : s.bond.Stopped := by
  obtain ⟨hreply, hhold, hpartner, hpair, htaken⟩ := h
  simp only [hr, Bool.false_eq_true, false_and, imp_false, Bool.not_eq_true, Option.isSome_eq_false_iff,
    Option.isNone_iff_eq_none] at hreply hhold hpartner hpair htaken
  exact ⟨hreply, hhold, hpartner, hpair, htaken⟩

theorem startWith_timers (k : StartKind) (i : StartInputs) (s : State) : BondTimersOk (startWith k i s) := by
  obtain ⟨x, hx, -⟩ := startWith_keeps k i s
  exact hx.timers (enterRun_inRun x) (.of_stopped (enterRun_fresh x).2.1)

theorem Effect.timers (hs : BondTimersOk s) (h : Effect c s u) : BondTimersOk u := by
  cases h with
  | blocks hr h => exact h.timers hr hs
  | hold hr => exact .of_stopped ⟨rfl, rfl, rfl, rfl, rfl⟩
  | reset hr => exact .of_stopped ⟨rfl, rfl, rfl, rfl, rfl⟩
  | resetInHold hold => exact .of_stopped (hs.stopped_outside (by simp [inRun, hold]))
  | heldInReset hoff => exact .of_stopped (hs.stopped_outside (by simp [inRun, hoff]))
  | lost hdom =>
    refine .of_stopped (hs.stopped_outside ?_)
    rcases hdom with hdom | hdom <;> simp [inRun, hdom]
  | start h => exact startWith_timers _ _ _
  | _ => exact hs

theorem settle_timers (h : BondTimersOk s) : BondTimersOk (settle s) := by
  unfold BondTimersOk at h ⊢
  rw [settle_bond, settle_inRun, settle_ret]
  exact h

/-- Settles O9, from what each operation of the bond engine leaves running. -/
theorem bondTimersKept : Obligations.BondTimersKept := fun _ _ hs hstep =>
  kept_of_effects (fun _ _ => id) (fun _ _ _ hs hu => settle_timers (hu.timers hs)) hs hstep

/-! ## The engagement and the retained counts -/

/-- The two parts of the retained domain's ranges that a dip may spoil, as a fact about the domain. -/
structure DomainRanges (d : Domain) : Prop where
  counts : CountsInRange d.ret
  copies : CopiesInRange d

theorem domainPlausible_ranges {d : Domain} (h : domainPlausible d = true) :
    d.ret.engaged.isSome = engagedState d.ret.bondState ∧ CountsInRange d.ret ∧ CopiesInRange d := by
  simp only [domainPlausible, Domain.inWidths, Bool.and_eq_true, decide_eq_true_eq] at h
  obtain ⟨⟨⟨⟨⟨hseconds, hepoch, hcount⟩, hpoints⟩, hmin, hmax⟩, -⟩, hengaged⟩ := h
  exact ⟨hengaged, ⟨hmin, hmax, hpoints, hepoch, hcount⟩, hseconds⟩

theorem coldDomain_ranges : CountsInRange coldDomain.ret ∧ CopiesInRange coldDomain :=
  ⟨coldRetained_inRange, Nat.zero_le _, Nat.zero_le _⟩

/-- A property of the domain that the cold domain has, that a plausible domain has, and that the entry to RUN and every operation
keep, holds after a plausible start. -/
theorem StartsFrom.domain {k : StartKind} {i : StartInputs} {s' : State} {P : Domain → Prop}
    (h : StartsFrom c k i s s') (hplausible : upsetPlausible c = true) (hcold : P coldDomain)
    (hp : ∀ d, domainPlausible d = true → P d) (hs : domainTrusted s = true → P s.dom)
    (hrun : ∀ x, P x.dom → P (enterRun x).dom) (hk : ∀ x y, Keeps x y → P x.dom → P y.dom) :
    P (startWith k i s').dom := by
  obtain ⟨x, hx, -, -, hdom⟩ := startWith_keeps k i s'
  refine hk _ _ hx (hrun x ?_)
  rcases hdom with hdom | ⟨hkind, -, hkeeps⟩
  · rwa [hdom]
  · refine hk _ _ hkeeps ?_
    have hs' : s'.dom = s.dom := by rcases h.pins with rfl | rfl <;> rfl
    show P (i.upset.getD s'.dom)
    have hupset := h.upset.trans hplausible
    cases hi : i.upset with
    | none => exact hs'.symm ▸ hs (h.trusted.resolve_left hkind)
    | some d => exact hp d (by simpa [hi] using hupset)

/-- A property of the domain that every operation keeps stands after an effect, wherever the domain is trusted. -/
theorem Effect.domain {P : Domain → Prop} (hs : domainTrusted s = true → P s.dom) (h : Effect c s u)
    (hplausible : upsetPlausible c = true) (hcold : P coldDomain) (hp : ∀ d, domainPlausible d = true → P d)
    (hrun : ∀ x, P x.dom → P (enterRun x).dom) (hk : ∀ x y, Keeps x y → P x.dom → P y.dom)
    (ht : domainTrusted u = true) : P u.dom := by
  cases h with
  | blocks hr h => exact hk _ _ h (hs (by simp [domainTrusted, (inRun_iff s).1 hr]))
  | second => exact hk _ _ (advanceSeconds_keeps s) (hs ht)
  | hold hr =>
    show P (continuityBreak s).dom
    exact hk s _ (continuityBreak_keeps s) (hs (by simp [domainTrusted, (inRun_iff s).1 hr]))
  | reset hr => exact hs (by simp [domainTrusted, (inRun_iff s).1 hr])
  | resetInHold hold => exact hs (by simp [domainTrusted, hold])
  | heldInReset hoff => simp [domainTrusted, setSupplyState] at ht
  | lost hdom => simp [domainTrusted, loseDomain, setSupplyState] at ht
  | start h => exact h.domain hplausible hcold hp hs hrun hk
  | _ => exact hs ht

/-- A step with plausible inputs keeps a property of the trusted domain that does not read the check value. -/
theorem step_domain {P : Domain → Prop} (hpending : PendingPlausible s) (hcold : P coldDomain)
    (hp : ∀ d, domainPlausible d = true → P d) (hrun : ∀ x, P x.dom → P (enterRun x).dom)
    (hk : ∀ x y, Keeps x y → P x.dom → P y.dom) (hsettle : ∀ x, P x.dom → P (settle x).dom)
    (hstep : step s = .next t) (hs : domainTrusted s = true → P s.dom) (ht : domainTrusted t = true) : P t.dom := by
  rcases step_acts hstep with rfl | ⟨c, rest, hq, rfl | ⟨u, hu, rfl⟩⟩
  · exact hs ht
  · exact hs ht
  · have hc : upsetPlausible c = true := hpending c (hq ▸ List.mem_cons_self)
    exact hsettle u (hu.domain (s := s.setPending rest) hs hc hcold hp hrun hk (settle_domainTrusted u ▸ ht))

/-- Settles O10: the engagement and the counts keep through every operation, and a start takes them from a plausible domain. -/
theorem retainedKept : Obligations.RetainedKept := by
  intro s t hpending hstep
  constructor
  · exact fun hs => step_domain (P := fun d => d.ret.engaged.isSome = engagedState d.ret.bondState) hpending rfl
      (fun d h => (domainPlausible_ranges h).1) enterRun_engaged (fun x y h => h.engaged)
      (fun x h => (congrArg (fun r : Retained => r.engaged.isSome = engagedState r.bondState) (settle_ret x)).mpr h) hstep hs
  · intro hs
    rw [retainedInRange_iff] at hs ⊢
    refine step_domain (P := fun d => CountsInRange d.ret ∧ CopiesInRange d) hpending coldDomain_ranges
      (fun d h => (domainPlausible_ranges h).2)
      (fun x h => ⟨(enterRun_dom x).2.1 h.1, (enterRun_dom x).2.2 h.2⟩)
      (fun x y h hx => ⟨h.range hx.1, h.seconds hx.2⟩) (fun x h => ?_) hstep hs
    obtain ⟨-, -, hseconds, hcopy⟩ := settle_words x
    refine ⟨(congrArg CountsInRange (settle_ret x)).mpr h.1, ?_⟩
    unfold CopiesInRange
    rw [hseconds, hcopy]
    exact h.2

/-! ## Reset -/

/-- Settles O4: at reset nothing runs, nothing is queued, and the domain is not trusted. -/
theorem resetMeetsInvariants : Obligations.ResetMeetsInvariants := by
  refine ⟨rfl, ⟨Nat.zero_le _, Nat.zero_le _, Nat.zero_le _⟩, PeerTable.Ordered.empty none, ?_,
    .of_stopped ⟨rfl, rfl, rfl, rfl, rfl⟩, ?_, ?_, .inl rfl, fun _ => by decide⟩
  all_goals exact fun h => absurd h (by decide)

end Sys2Proof.Machine
end

section
/-! SUPPORT. The arithmetic of the manual: roundings and clamp, the results of a pulse and the resistance ratio, the two extremes
of a Rest Point List, and an accepted estimate. Settles O15, O17 and O18. -/

namespace Sys2Proof.Machine

/-! ## Roundings and clamp -/

theorem roundHalfUp_bounds (n : Nat) {d : Nat} (hd : 0 < d) :
    2 * d * roundHalfUp n d ≤ 2 * n + d ∧ 2 * n + d < 2 * d * (roundHalfUp n d + 1) :=
  ⟨Nat.mul_div_le _ _, Nat.lt_mul_div_succ _ (by omega)⟩

theorem roundHalfUpInt_bounds (n : Int) {d : Nat} (hd : 0 < d) :
    2 * (d : Int) * roundHalfUpInt n d ≤ 2 * n + d ∧ 2 * n + d < 2 * (d : Int) * (roundHalfUpInt n d + 1) := by
  have hpos : 0 < 2 * (d : Int) := by omega
  refine ⟨Int.mul_ediv_self_le hpos.ne', ?_⟩
  rw [mul_add, mul_one]
  exact Int.lt_mul_ediv_self_add hpos

theorem roundHalfUp_zero {d : Nat} (hd : 0 < d) : roundHalfUp 0 d = 0 :=
  Nat.div_eq_of_lt (by omega)

theorem roundHalfAway_natCast (n d : Nat) : roundHalfAway n d = roundHalfUp n d := by
  simp [roundHalfAway]

theorem roundHalfAway_neg (n : Nat) {d : Nat} (hd : 0 < d) : roundHalfAway (-(n : Int)) d = -(roundHalfUp n d : Int) := by
  rcases Nat.eq_zero_or_pos n with rfl | hn
  · simp [roundHalfAway, roundHalfUp_zero hd]
  · rw [roundHalfAway, if_neg (by omega), Int.natAbs_neg, Int.natAbs_natCast]

/-- A multiple of the divisor rounds to the quotient, whichever side it is written on. -/
theorem roundHalfUp_mul_right_self {d : Nat} (k : Nat) (hd : 0 < d) : roundHalfUp (k * d) d = k := by
  rw [Nat.mul_comm]
  exact roundHalfUp_mul_self k hd

theorem clamp_of_lt {lo hi x : Int} (h : x < lo) : clamp lo hi x = lo := if_pos h

theorem clamp_of_gt {lo hi x : Int} (hlo : lo ≤ hi) (h : hi < x) : clamp lo hi x = hi := by
  rw [clamp, if_neg (by omega), if_pos h]

theorem clamp_of_mem {lo hi x : Int} (hlo : lo ≤ x) (hhi : x ≤ hi) : clamp lo hi x = x := by
  rw [clamp, if_neg (by omega), if_neg (by omega)]

theorem clamp_mem {lo hi : Int} (x : Int) (h : lo ≤ hi) : lo ≤ clamp lo hi x ∧ clamp lo hi x ≤ hi := by
  unfold clamp
  split_ifs <;> omega

/-! ## The pulse's arithmetic and the ratio -/

theorem temperatureFactor_eq (alpha : Nat) (t : Int) :
    (temperatureFactor alpha t : Int) = clamp 250 4000 (1000 + alpha * (t - 25)) := by
  have hmem := clamp_mem (lo := 250) (hi := 4000) (1000 + alpha * (t - 25)) (by decide)
  exact Int.toNat_of_nonneg (by omega)

theorem temperatureFactor_spec (a : Nat) (t : Int) :
    250 ≤ temperatureFactor a t ∧ temperatureFactor a t ≤ 4000
      ∧ (250 ≤ 1000 + a * (t - 25) → 1000 + a * (t - 25) ≤ 4000 → (temperatureFactor a t : Int) = 1000 + a * (t - 25))
      ∧ (1000 + a * (t - 25) < 250 → temperatureFactor a t = 250)
      ∧ (4000 < 1000 + a * (t - 25) → temperatureFactor a t = 4000) := by
  have heq := temperatureFactor_eq a t
  have hmem := clamp_mem (lo := 250) (hi := 4000) (1000 + a * (t - 25)) (by decide)
  refine ⟨by omega, by omega, fun hlo hhi => ?_, fun h => ?_, fun h => ?_⟩
  · rw [heq, clamp_of_mem hlo hhi]
  · rw [clamp_of_lt h] at heq
    omega
  · rw [clamp_of_gt (by decide) h] at heq
    omega

theorem normalised_of_alpha_zero {r : Nat} (t : Int) (hr : r ≤ 16777215) : normalised 0 r t = r := by
  have hfactor : temperatureFactor 0 t = 1000 := by simp [temperatureFactor, clamp]
  rw [normalised, hfactor, roundHalfUp_mul_right_self r (by decide)]
  exact Nat.min_eq_right hr

theorem ratioOf_spec {p : Profile} (r : Nat) (hp : 0 < p.ratedResistance) :
    ratioOf p r ≤ 65535 ∧ (ratioOf p r = 65535 ↔ 65535 * p.ratedResistance ≤ r * 1000)
      ∧ (ratioOf p r < 65535 → ratioOf p r * p.ratedResistance ≤ r * 1000
          ∧ r * 1000 < (ratioOf p r + 1) * p.ratedResistance) := by
  have heq : ratioOf p r = min 65535 (r * 1000 / p.ratedResistance) := rfl
  refine ⟨heq ▸ Nat.min_le_left _ _, ?_, fun h => ?_⟩
  · rw [heq, min_eq_left_iff, Nat.le_div_iff_mul_le hp]
  · have hquotient : ratioOf p r = r * 1000 / p.ratedResistance := by omega
    rw [hquotient]
    exact ⟨Nat.div_mul_le_self _ _, (Nat.div_lt_iff_lt_mul hp).1 (Nat.lt_succ_self _)⟩

/-- Settles O15, from the bounds of each rounding and the ends of the clamp. -/
theorem arithmetic : Obligations.Arithmetic := by
  refine ⟨fun n d hd => roundHalfUp_bounds n hd, fun n d hd => roundHalfUpInt_bounds n hd,
    fun n d hd => ⟨roundHalfAway_natCast n d, roundHalfAway_neg n hd⟩, ?_, fun _ _ _ => rfl, temperatureFactor_spec, ?_,
    fun p r hp => ratioOf_spec r hp⟩
  · exact fun lo hi x h => ⟨(clamp_mem x h).1, (clamp_mem x h).2, clamp_of_mem, clamp_of_lt, clamp_of_gt h⟩
  · rintro a r t
    refine ⟨rfl, ?_⟩
    rintro hr rfl
    exact normalised_of_alpha_zero t hr

/-! ## The extremes of a list of rest points -/

/-- The place of the point with the greatest key, the most recent among equals: the shape of `highIndex` and `lowIndex`. -/
def extremeIndex (key : RestPoint → Int) : List RestPoint → Nat
  | [] => 0
  | [_] => 0
  | p :: q :: rest =>
    let j := extremeIndex key (q :: rest)
    if key ((q :: rest).getD j q) < key p then 0 else j + 1

theorem highIndex_eq (l : List RestPoint) : highIndex l = extremeIndex (fun p => p.soc) l := by
  induction l with
  | nil => rfl
  | cons p l ih => cases l with
    | nil => rfl
    | cons q rest => simp [highIndex, extremeIndex, ih]

theorem lowIndex_eq (l : List RestPoint) : lowIndex l = extremeIndex (fun p => -(p.soc : Int)) l := by
  induction l with
  | nil => rfl
  | cons p l ih => cases l with
    | nil => rfl
    | cons q rest => simp [lowIndex, extremeIndex, ih]

/-- No point has a greater key, and none after it an equal one. -/
theorem extremeIndex_spec (key : RestPoint → Int) {l : List RestPoint} (hl : l ≠ []) :
    ∃ h, l[extremeIndex key l]? = some h
      ∧ ∀ j p, l[j]? = some p → key p ≤ key h ∧ (key p = key h → j ≤ extremeIndex key l) := by
  induction l with
  | nil => exact absurd rfl hl
  | cons p l ih =>
    cases l with
    | nil =>
      refine ⟨p, rfl, fun j q hq => ?_⟩
      cases j with
      | zero => cases hq; exact ⟨le_rfl, fun _ => Nat.zero_le _⟩
      | succ j => cases hq
    | cons q rest =>
      obtain ⟨h, hh, hmax⟩ := ih (List.cons_ne_nil _ _)
      have hlater : (q :: rest).getD (extremeIndex key (q :: rest)) q = h := by simp [List.getD, hh]
      rw [extremeIndex]
      simp only [hlater]
      split_ifs with hlt
      · refine ⟨p, rfl, fun j x hx => ?_⟩
        cases j with
        | zero => cases hx; exact ⟨le_rfl, fun _ => le_rfl⟩
        | succ j =>
          have hle := (hmax j x hx).1
          exact ⟨by omega, fun heq => by omega⟩
      · refine ⟨h, hh, fun j x hx => ?_⟩
        cases j with
        | zero => cases hx; exact ⟨by omega, fun _ => Nat.zero_le _⟩
        | succ j => exact ⟨(hmax j x hx).1, fun heq => Nat.succ_le_succ ((hmax j x hx).2 heq)⟩

theorem highIndex_spec {l : List RestPoint} (hl : l ≠ []) : ∃ h, l[highIndex l]? = some h
    ∧ ∀ j p, l[j]? = some p → p.soc ≤ h.soc ∧ (p.soc = h.soc → j ≤ highIndex l) := by
  rw [highIndex_eq]
  obtain ⟨h, hh, hmax⟩ := extremeIndex_spec (fun p => p.soc) hl
  exact ⟨h, hh, fun j p hp => by have := hmax j p hp; omega⟩

theorem lowIndex_spec {l : List RestPoint} (hl : l ≠ []) : ∃ w, l[lowIndex l]? = some w
    ∧ ∀ j p, l[j]? = some p → w.soc ≤ p.soc ∧ (p.soc = w.soc → j ≤ lowIndex l) := by
  rw [lowIndex_eq]
  obtain ⟨w, hw, hmax⟩ := extremeIndex_spec (fun p => -(p.soc : Int)) hl
  exact ⟨w, hw, fun j p hp => by have := hmax j p hp; omega⟩

/-- The place removed of nine: the first that is neither extreme, one of the first three (R33). -/
theorem oldestOther_spec (l : List RestPoint) : oldestOther l ≠ highIndex l ∧ oldestOther l ≠ lowIndex l
    ∧ ∀ j, j < oldestOther l → j = highIndex l ∨ j = lowIndex l := by
  unfold oldestOther
  split_ifs with h0 h1
  · exact ⟨h0.1, h0.2, fun j hj => by omega⟩
  · exact ⟨h1.1, h1.2, fun j hj => by omega⟩
  · exact ⟨by omega, by omega, fun j hj => by omega⟩

theorem addPoint_of_room (p : RestPoint) {l : List RestPoint} (h : l.length < 8) : addPoint p l = l ++ [p] :=
  if_pos (by simpa [Config.listPlaces] using h)

theorem addPoint_of_full (p : RestPoint) {l : List RestPoint} (h : l.length = 8) :
    addPoint p l = (l ++ [p]).eraseIdx (oldestOther (l ++ [p])) :=
  if_neg (by simp [Config.listPlaces, h])

/-- Settles O17, from the place of an extreme and the first place that is none. -/
theorem listKeepsExtremes : Obligations.ListKeepsExtremes := by
  refine ⟨fun l hl => ?_, fun p l => ⟨addPoint_of_room p, fun h => ?_⟩⟩
  · obtain ⟨h, hh, hmax⟩ := highIndex_spec hl
    obtain ⟨w, hw, hmin⟩ := lowIndex_spec hl
    exact ⟨⟨h, hh, hh, hmax⟩, ⟨w, hw, hw, hmin⟩⟩
  · obtain ⟨hhigh, hlow, hbefore⟩ := oldestOther_spec (l ++ [p])
    have hle := oldestOther_le (l ++ [p])
    exact ⟨_, addPoint_of_full p h, by omega, hhigh, hlow, hbefore⟩

/-! ## An accepted estimate -/

/-- A quotient between two bounds rounds to a value between them. -/
theorem roundHalfUp_between {lo hi n d : Nat} (hd : 0 < d) (hlo : lo * d ≤ n) (hhi : n ≤ hi * d) :
    lo ≤ roundHalfUp n d ∧ roundHalfUp n d ≤ hi :=
  ⟨(roundHalfUp_mul_right_self lo hd).symm.trans_le (roundHalfUp_mono d hlo),
    (roundHalfUp_mono d hhi).trans_eq (roundHalfUp_mul_right_self hi hd)⟩

theorem rawEstimate_range {deltaQ : Int} {deltaSoc : Nat} (hq : 0 < deltaQ) (hs : 0 < deltaSoc) (hs' : deltaSoc ≤ 1000) :
    1 ≤ rawEstimate deltaQ deltaSoc ∧ rawEstimate deltaQ deltaSoc ≤ 16777215 := by
  have hcharge : 1 ≤ deltaQ.toNat := by omega
  have hone : 1 ≤ roundHalfUp (deltaQ.toNat * 1000) deltaSoc :=
    (roundHalfUp_mul_right_self 1 hs).symm.trans_le (roundHalfUp_mono _ (by omega))
  exact ⟨Nat.le_min.2 ⟨by decide, hone⟩, Nat.min_le_left _ _⟩

theorem profileValid_smoothing {p : Profile} (h : profileValid p = true) : 1 ≤ p.smoothing ∧ p.smoothing ≤ 16 := by
  simp only [profileValid, gradingRanges, Bool.and_eq_true, decide_eq_true_eq] at h
  obtain ⟨⟨-, ⟨⟨⟨⟨⟨⟨-, hsmoothing⟩, -⟩, -⟩, -⟩, -⟩, -⟩⟩, -⟩ := h
  exact hsmoothing

/-- A smoothed capacity lies between the held value and the estimate (R61). -/
theorem foldEstimate_between {p : Profile} (hk : p.smoothing ≤ 16) (c e : Nat) :
    min c e ≤ foldEstimate p (some c) e ∧ foldEstimate p (some c) e ≤ max c e := by
  obtain ⟨m, hm⟩ : ∃ m, p.smoothing + m = 16 := ⟨16 - p.smoothing, by omega⟩
  have hrest : 16 - p.smoothing = m := by omega
  simp only [foldEstimate, hrest]
  refine roundHalfUp_between (by decide) ?_ ?_
  · calc min c e * 16 = min c e * m + min c e * p.smoothing := by rw [← Nat.mul_add, Nat.add_comm m, hm]
      _ ≤ c * m + e * p.smoothing :=
        Nat.add_le_add (Nat.mul_le_mul_right _ (Nat.min_le_left _ _)) (Nat.mul_le_mul_right _ (Nat.min_le_right _ _))
  · calc c * m + e * p.smoothing ≤ max c e * m + max c e * p.smoothing :=
        Nat.add_le_add (Nat.mul_le_mul_right _ (Nat.le_max_left _ _)) (Nat.mul_le_mul_right _ (Nat.le_max_right _ _))
      _ = max c e * 16 := by rw [← Nat.mul_add, Nat.add_comm m, hm]

/-- Settles O18, from the range of the raw estimate and the bounds of the smoothing. -/
theorem estimateFoldsIn : Obligations.EstimateFoldsIn := by
  intro p g deltaQ deltaSoc hp hq hs hs' hheld
  obtain ⟨hlo, hhi⟩ := rawEstimate_range hq hs hs'
  obtain ⟨-, hk⟩ := profileValid_smoothing hp
  refine ⟨rfl, hlo, hhi, rfl, rfl, _, _, rfl, rfl, ?_⟩
  have hsoh : sohOf p (foldEstimate p g.capacity (rawEstimate deltaQ deltaSoc)) ≤ 1000 := Nat.min_le_left _ _
  cases hc : g.capacity with
  | none => exact ⟨hlo, hhi, hc ▸ hsoh, rfl, fun _ => rfl, fun _ h => nomatch h⟩
  | some c =>
    obtain ⟨hclo, hchi⟩ := hheld c hc
    obtain ⟨hmin, hmax⟩ := foldEstimate_between hk c (rawEstimate deltaQ deltaSoc)
    refine ⟨by omega, by omega, hc ▸ hsoh, rfl, (nomatch ·), fun old hold => ?_⟩
    cases hold
    refine ⟨rfl, hmin, hmax, fun h16 => ?_⟩
    simp only [foldEstimate, h16, Nat.sub_self, Nat.mul_zero, Nat.zero_add]
    exact roundHalfUp_mul_right_self _ (by decide)

end Sys2Proof.Machine
end

section
/-! SUPPORT. The frame check register, the bits of bytes and stuffing: what is put in is read back (R80, R83, R194, R197).
Settles O11. -/

namespace Sys2Proof.Machine

/-! ## The frame check -/

theorem crcBits_append (r : Word16) (xs ys : List Bool) : crcBits r (xs ++ ys) = crcBits (crcBits r xs) ys :=
  List.foldl_append

theorem crcBytes_append (r : Word16) (xs ys : List Byte) : crcBytes r (xs ++ ys) = crcBytes (crcBytes r xs) ys :=
  List.foldl_append

theorem crcBytes_cons (r : Word16) (b : Byte) (bs : List Byte) :
    crcBytes r (b :: bs) = crcBytes (crcBits r (byteBits b)) bs := rfl

/-- The register fed its own most significant bit shifts and takes no feedback (R197). -/
theorem crcBit_msb (r : Word16) : crcBit r r.msb = r <<< 1 := by
  simp [crcBit]

/-- The register fed its own bits from the top is shifted out. -/
theorem crcBits_own (r : Word16) (k n : Nat) :
    crcBits (r <<< k) ((List.range n).map fun i => r.getMsbD (k + i)) = r <<< (k + n) := by
  induction n with
  | zero => rfl
  | succ n ih =>
    have hmsb : r.getMsbD (k + n) = (r <<< (k + n)).msb := by
      rw [BitVec.msb, BitVec.getMsbD_shiftLeft, Nat.zero_add]
    rw [List.range_succ, List.map_append, crcBits_append, ih]
    simp only [List.map_cons, List.map_nil, crcBits, List.foldl_cons, List.foldl_nil]
    rw [hmsb, crcBit_msb, ← BitVec.shiftLeft_add, Nat.add_assoc]

/-- The bits of the two check bytes are those of the register. -/
theorem checkBits_eq (r : Word16) :
    byteBits (r.extractLsb' 8 8) ++ byteBits (r.extractLsb' 0 8) = (List.range 16).map fun i => r.getMsbD (0 + i) := by
  simp [byteBits, BitVec.getMsbD, List.range_succ]

/-- The register passed over the two check bytes formed from it holds 0 (R197). -/
theorem crcBytes_check (r : Word16) : crcBytes r [r.extractLsb' 8 8, r.extractLsb' 0 8] = 0#16 := by
  have hown := crcBits_own r 0 16
  rw [← checkBits_eq, BitVec.shiftLeft_zero, crcBits_append] at hown
  exact hown.trans (BitVec.shiftLeft_eq_zero (by decide))

theorem crc_append_checkBytes (l : List Byte) : crc (l ++ checkBytes l) = 0#16 := by
  rw [crc, crcBytes_append]
  exact crcBytes_check (crc l)

@[simp] theorem checkBytes_length (l : List Byte) : (checkBytes l).length = 2 := rfl

/-! ## The bits of bytes -/

@[simp] theorem byteBits_length (b : Byte) : (byteBits b).length = 8 := rfl

theorem bitsByte_byteBits (b : Byte) : bitsByte (byteBits b) = b := by
  revert b
  decide

@[simp] theorem bytesBits_length (l : List Byte) : (bytesBits l).length = 8 * l.length := by
  induction l with
  | nil => rfl
  | cons b bs ih =>
    rw [bytesBits, List.length_append, ih, byteBits_length, List.length_cons]
    omega

theorem bitsBytes_bytesBits (l : List Byte) : bitsBytes l.length (bytesBits l) = l := by
  induction l with
  | nil => rfl
  | cons b bs ih =>
    rw [List.length_cons, bitsBytes, bytesBits, List.take_left' (byteBits_length b), List.drop_left' (byteBits_length b),
      bitsByte_byteBits, ih]

/-- Bits that hold whole bytes, not too few, not too many, with a check that closes, are a good frame (R82, R83). -/
theorem goodContent_bytesBits {l : List Byte} (hlo : 5 ≤ l.length) (hhi : l.length ≤ 45) (hcrc : crc l = 0#16) :
    goodContent (bytesBits l) = some l := by
  have hbytes : bitsBytes ((bytesBits l).length / 8) (bytesBits l) = l := by
    rw [bytesBits_length, Nat.mul_div_cancel_left _ (by decide), bitsBytes_bytesBits]
  have hwhole : ¬ ((bytesBits l).length < 40 ∨ (bytesBits l).length % 8 ≠ 0 ∨ 360 < (bytesBits l).length) := by
    rw [bytesBits_length]
    omega
  rw [goodContent, if_neg hwhole]
  simp only [hbytes]
  exact if_pos hcrc

@[simp] theorem frameContent_length (f : Frame) : (frameContent f).length = f.payload.length + 5 := by
  simp [frameContent, frameBody]

theorem frameOf_frameContent (f : Frame) : frameOf (frameContent f) = f := by
  have hpayload : ((frameContent f).drop 3).take ((frameContent f).length - 5) = f.payload := by
    rw [frameContent_length, Nat.add_sub_cancel]
    exact List.take_left' rfl
  rw [frameOf, hpayload]
  rfl

/-! ## Stuffing -/

/-- Bits whose runs stay within six, where a run of `run` bits `last` stands before them (R80). -/
def RunsWithinSix : Nat → Bool → List Bool → Prop
  | _, _, [] => True
  | run, last, b :: bs =>
    (if 0 < run ∧ b = last then run + 1 else 1) ≤ 6 ∧ RunsWithinSix (if 0 < run ∧ b = last then run + 1 else 1) b bs

/-- The run of a bit after a run of `run` bits `last`. -/
def nextRun (run : Nat) (last b : Bool) : Nat := if 0 < run ∧ b = last then run + 1 else 1

theorem stuffFrom_cons (run : Nat) (last b : Bool) (bs : List Bool) :
    stuffFrom run last (b :: bs) =
      if nextRun run last b = 6 then b :: (!b) :: stuffFrom 1 (!b) bs else b :: stuffFrom (nextRun run last b) b bs := rfl

theorem runsWithinSix_cons (run : Nat) (last b : Bool) (bs : List Bool) :
    RunsWithinSix run last (b :: bs) ↔ nextRun run last b ≤ 6 ∧ RunsWithinSix (nextRun run last b) b bs := Iff.rfl

theorem nextRun_le {run : Nat} (last b : Bool) (h : run ≤ 5) : nextRun run last b ≤ 6 := by
  unfold nextRun
  split_ifs <;> omega

theorem nextRun_opposite (run : Nat) (b : Bool) : nextRun run b (!b) = 1 := by
  cases b <;> simp [nextRun]

theorem nextRun_same {run : Nat} (b : Bool) (h : 0 < run) : nextRun run b b = run + 1 := if_pos ⟨h, rfl⟩

theorem nextRun_pos (run : Nat) (last b : Bool) : 0 < nextRun run last b := by
  unfold nextRun
  split_ifs <;> omega

theorem stuffFrom_runs {run : Nat} (last : Bool) (h : run ≤ 5) (l : List Bool) : RunsWithinSix run last (stuffFrom run last l) := by
  induction l generalizing run last with
  | nil => trivial
  | cons b bs ih =>
    have hle := nextRun_le last b h
    rw [stuffFrom_cons]
    split_ifs with hsix
    · rw [runsWithinSix_cons, runsWithinSix_cons, nextRun_opposite]
      exact ⟨hle, by decide, ih _ (by decide)⟩
    · rw [runsWithinSix_cons]
      exact ⟨hle, ih _ (by omega)⟩

theorem RunsWithinSix.of_append {run : Nat} {last : Bool} {pre l : List Bool} (h : RunsWithinSix run last (pre ++ l)) :
    ∃ run' last', RunsWithinSix run' last' l := by
  induction pre generalizing run last with
  | nil => exact ⟨run, last, h⟩
  | cons b bs ih => exact ih ((runsWithinSix_cons ..).1 h).2

/-- After `run` bits `b` at most 6 - `run` more of them follow. -/
theorem RunsWithinSix.replicate_le {run n : Nat} {b : Bool} {l : List Bool} (hrun : 0 < run) (hsix : run ≤ 6)
    (h : RunsWithinSix run b (List.replicate n b ++ l)) : run + n ≤ 6 := by
  induction n generalizing run with
  | zero => exact hsix
  | succ n ih =>
    obtain ⟨hle, hrest⟩ := (runsWithinSix_cons ..).1 h
    rw [nextRun_same b hrun] at hle hrest
    have := ih (Nat.succ_pos run) hle hrest
    omega

theorem RunsWithinSix.no_seven {run : Nat} {last b : Bool} {l : List Bool}
    (h : RunsWithinSix run last (List.replicate 7 b ++ l)) : False := by
  obtain ⟨hle, hrest⟩ := (runsWithinSix_cons run last b (List.replicate 6 b ++ l)).1 h
  have hseven := hrest.replicate_le (nextRun_pos run last b) hle
  have hpos := nextRun_pos run last b
  omega

/-- Settles O11: the register shifts its own check bits out, the bits of bytes read back, and a stuffed run stays within six. -/
theorem frameFormat : Obligations.FrameFormat := by
  refine ⟨crc_append_checkBytes, fun f hf => ⟨goodContent_bytesBits ?_ ?_ (crc_append_checkBytes _), frameOf_frameContent f⟩, ?_⟩
  · simp
  · simp
    omega
  · intro content pre suf b heq
    have hruns := stuffFrom_runs (run := 0) false (by decide) content
    rw [heq, List.append_assoc] at hruns
    obtain ⟨run, last, hseven⟩ := hruns.of_append
    exact hseven.no_seven

end Sys2Proof.Machine
end

section
/-! SUPPORT. The commissioning record: what is put in is read back (R168, R169, R194, R198). Settles O13 and O14. -/

namespace Sys2Proof.Machine

/-! ## Fields read back -/

theorem byteOf_toNat {n : Nat} (h : n < 256) : (byteOf n).toNat = n := by
  simp only [byteOf, BitVec.toNat_ofNat]
  omega

theorem signedByte_toInt {t : Int} (hlo : -128 ≤ t) (hhi : t ≤ 127) : (signedByte t).toInt = t := by
  rw [signedByte, BitVec.toInt_ofInt]
  exact Int.bmod_eq_of_le (by norm_num; omega) (by norm_num; omega)

section Fields

variable {b : List Byte} {n i : Nat}

theorem u8_of_byteOf (h : b.getD i 0 = byteOf n) (hn : n < 256) : u8 b i = n := by
  rw [u8, h, byteOf_toNat hn]

theorem s8_of_signedByte {t : Int} (h : b.getD i 0 = signedByte t) (hlo : -128 ≤ t) (hhi : t ≤ 127) : s8 b i = t := by
  rw [s8, h, signedByte_toInt hlo hhi]

theorem u16_of_be16 (h0 : b.getD i 0 = BitVec.ofNat 8 (n / 256)) (h1 : b.getD (i + 1) 0 = BitVec.ofNat 8 n)
    (hn : n < 65536) : u16 b i = n := by
  rw [u16, u8, u8, h0, h1, BitVec.toNat_ofNat, BitVec.toNat_ofNat]
  omega

theorem u24_of_be24 (h0 : b.getD i 0 = BitVec.ofNat 8 (n / 65536)) (h1 : b.getD (i + 1) 0 = BitVec.ofNat 8 (n / 256))
    (h2 : b.getD (i + 2) 0 = BitVec.ofNat 8 n) (hn : n < 16777216) : u24 b i = n := by
  rw [u24, u8, u8, u8, h0, h1, h2, BitVec.toNat_ofNat, BitVec.toNat_ofNat, BitVec.toNat_ofNat]
  omega

end Fields

theorem getD_append_add (pre l : List Byte) (j : Nat) : (pre ++ l).getD (pre.length + j) 0 = l.getD j 0 := by
  rw [List.getD_append_right _ _ _ _ (Nat.le_add_right _ _), Nat.add_sub_cancel_left]

/-- The OCV entries read back as they were put in (R198). -/
theorem ocvRead_append (pre : List Byte) {l : List OcvPoint} (suf : List Byte)
    (h : ∀ q ∈ l, q.mv < 65536 ∧ q.soc < 65536) :
    ocvRead (pre ++ (l.flatMap ocvBytes ++ suf)) l.length pre.length = l := by
  induction l generalizing pre with
  | nil => rfl
  | cons q l ih =>
    obtain ⟨⟨hmv, hsoc⟩, hl⟩ := List.forall_mem_cons.1 h
    have hread := ih (pre ++ ocvBytes q) hl
    rw [List.append_assoc, List.length_append] at hread
    rw [List.flatMap_cons, List.append_assoc, List.length_cons, ocvRead]
    refine congrArg₂ List.cons ?_ hread
    refine congrArg₂ OcvPoint.mk (u16_of_be16 ?_ ?_ hmv) (u16_of_be16 ?_ ?_ hsoc)
    · exact getD_append_add pre _ 0
    · exact getD_append_add pre _ 1
    · exact getD_append_add pre _ 2
    · exact getD_append_add pre _ 3

/-! ## The commissioning record -/

theorem recordBody_length (p : Profile) : (recordBody p).length = 65 + 4 * p.ocv.length := by
  have hentries : (p.ocv.flatMap ocvBytes).length = 4 * p.ocv.length := by
    simp [List.length_flatMap, ocvBytes, be16, Nat.mul_comm]
  rw [recordBody, List.length_append, hentries]
  rfl

theorem encodeRecord_length (p : Profile) : (encodeRecord p).length = 67 + 4 * p.ocv.length := by
  rw [encodeRecord, List.length_append, recordBody_length, checkBytes_length]
  omega

/-- The bytes of a record stand before whatever follows it. -/
theorem encodeRecord_append (p : Profile) (tail : List Byte) :
    encodeRecord p ++ tail =
      (recordBytesLow p ++ recordBytesHigh p) ++ (p.ocv.flatMap ocvBytes ++ (checkBytes (recordBody p) ++ tail)) := by
  rw [encodeRecord, recordBody]
  simp only [List.append_assoc]


section Layout

variable {p : Profile} {rest tail b : List Byte} (hb : b = recordBytesLow p ++ (recordBytesHigh p ++ rest))
include hb

/-- A place among bytes 0 to 31 (R198). -/
theorem byte_of_low {i : Nat} {x : Byte} (h : (recordBytesLow p)[i]? = some x) : b.getD i 0 = x := by
  have hi : i < (recordBytesLow p).length := (List.getElem?_eq_some_iff.1 h).1
  rw [hb, List.getD_eq_getElem?_getD, List.getElem?_append_left hi, h, Option.getD_some]

/-- A place among bytes 32 to 64 (R198). -/
theorem byte_of_high {j : Nat} {x : Byte} (h : (recordBytesHigh p)[j]? = some x) : b.getD (j + 32) 0 = x := by
  have hj : j < (recordBytesHigh p).length := (List.getElem?_eq_some_iff.1 h).1
  rw [hb, Nat.add_comm, show 32 = (recordBytesLow p).length by simp [recordBytesLow, be16, be24], getD_append_add, List.getD_eq_getElem?_getD,
    List.getElem?_append_left hj, h, Option.getD_some]


theorem u8_low {i n : Nat} (h : (recordBytesLow p)[i]? = some (byteOf n)) (hn : n < 256) : u8 b i = n :=
  u8_of_byteOf (byte_of_low hb h) hn

theorem u8_high {j n : Nat} (h : (recordBytesHigh p)[j]? = some (byteOf n)) (hn : n < 256) : u8 b (j + 32) = n :=
  u8_of_byteOf (byte_of_high hb h) hn

theorem s8_low {i : Nat} {t : Int} (h : (recordBytesLow p)[i]? = some (signedByte t)) (hlo : -128 ≤ t) (hhi : t ≤ 127) :
    s8 b i = t :=
  s8_of_signedByte (byte_of_low hb h) hlo hhi

theorem u16_low {i n : Nat} (h : (recordBytesLow p)[i]? = some (BitVec.ofNat 8 (n / 256))
    ∧ (recordBytesLow p)[i + 1]? = some (BitVec.ofNat 8 n)) (hn : n < 65536) : u16 b i = n :=
  u16_of_be16 (byte_of_low hb h.1) (byte_of_low hb h.2) hn

theorem u16_high {j n : Nat} (h : (recordBytesHigh p)[j]? = some (BitVec.ofNat 8 (n / 256))
    ∧ (recordBytesHigh p)[j + 1]? = some (BitVec.ofNat 8 n)) (hn : n < 65536) : u16 b (j + 32) = n :=
  u16_of_be16 (byte_of_high hb h.1) ((congrArg (b.getD · 0) (Nat.add_right_comm j 32 1)).trans (byte_of_high hb h.2)) hn

theorem u24_low {i n : Nat} (h : (recordBytesLow p)[i]? = some (BitVec.ofNat 8 (n / 65536))
    ∧ (recordBytesLow p)[i + 1]? = some (BitVec.ofNat 8 (n / 256))
    ∧ (recordBytesLow p)[i + 2]? = some (BitVec.ofNat 8 n)) (hn : n < 16777216) : u24 b i = n :=
  u24_of_be24 (byte_of_low hb h.1) (byte_of_low hb h.2.1) (byte_of_low hb h.2.2) hn

theorem u24_high {j n : Nat} (h : (recordBytesHigh p)[j]? = some (BitVec.ofNat 8 (n / 65536))
    ∧ (recordBytesHigh p)[j + 1]? = some (BitVec.ofNat 8 (n / 256))
    ∧ (recordBytesHigh p)[j + 2]? = some (BitVec.ofNat 8 n)) (hn : n < 16777216) : u24 b (j + 32) = n :=
  u24_of_be24 (byte_of_high hb h.1) ((congrArg (b.getD · 0) (Nat.add_right_comm j 32 1)).trans (byte_of_high hb h.2.1))
    ((congrArg (b.getD · 0) (Nat.add_right_comm j 32 2)).trans (byte_of_high hb h.2.2)) hn

/-- The gate, tolerance and bit rate codes and the start activity go through byte 5 (R198). -/
theorem packedCodes_read (hg : p.gateCode ≤ 6) (ht : p.toleranceCode ≤ 3) (hr : p.bitRateCode ≤ 3) :
    u8 b 5 / 32 = p.gateCode ∧ u8 b 5 / 8 % 4 = p.toleranceCode ∧ u8 b 5 / 2 % 4 = p.bitRateCode
      ∧ (if u8 b 5 % 2 = 1 then Activity.active else .dormant) = p.startActivity := by
  have hu := u8_low hb (i := 5) (by simp [recordBytesLow, be16, be24, packedCodes]; rfl) (by split <;> omega)
  cases ha : p.startActivity with
  | active =>
    simp only [ha, if_true] at hu
    exact ⟨by omega, by omega, by omega, if_pos (by omega)⟩
  | dormant =>
    simp only [ha, reduceCtorEq, if_false] at hu
    exact ⟨by omega, by omega, by omega, if_neg (by omega)⟩

/-- The LOAD polarity, the sharing option and α go through byte 6, and its bit 5 is zero (R198). -/
theorem packedOptions_read (ha : p.alpha ≤ 30) :
    u8 b 6 % 32 = p.alpha ∧ decide (128 ≤ u8 b 6) = p.loadActiveLow ∧ decide (64 ≤ u8 b 6 % 128) = p.sharing
      ∧ u8 b 6 / 32 % 2 = 0 := by
  have hu := u8_low hb (i := 6) (by simp [recordBytesLow, be16, be24, packedOptions]; rfl) (by split <;> split <;> omega)
  cases hl : p.loadActiveLow <;> cases hs : p.sharing <;>
    simp only [hl, hs, Bool.false_eq_true, if_true, if_false] at hu <;>
    refine ⟨by omega, ?_, ?_, by omega⟩ <;> simp only [decide_eq_true_eq, decide_eq_false_iff_not] <;> omega

/-- The front end's, the OCV table's and the rest detector's values read back (R198). -/
theorem measurement_read (h : measurementRanges p = true) (htable : rest = p.ocv.flatMap ocvBytes ++ tail) :
    u16 b 3 = p.calibration ∧ u8 b 7 = p.chemistry ∧ u8 b 8 = p.series ∧ u8 b 2 = p.ocv.length
      ∧ u16 b 9 = p.restThreshold ∧ u8 b 11 = p.restTime ∧ u8 b 12 = p.longRestTime ∧ s8 b 13 = p.captureLow
      ∧ s8 b 14 = p.captureHigh ∧ ocvRead b p.ocv.length 65 = p.ocv := by
  simp only [measurementRanges, temperatureOk, Bool.and_eq_true, decide_eq_true_eq, List.all_eq_true, and_assoc] at h
  obtain ⟨-, hcal, -, -, hchem, -, hser, -, hocv, hall, -, hrest, -, hrt, -, hlong, hcl, hcl', hch, hch', -⟩ := h
  refine ⟨u16_low hb ?_ (by omega), u8_low hb ?_ (by omega), u8_low hb ?_ (by omega), u8_low hb ?_ (by omega),
    u16_low hb ?_ (by omega), u8_low hb ?_ (by omega), u8_low hb ?_ (by omega), s8_low hb ?_ (by omega) (by omega),
    s8_low hb ?_ (by omega) (by omega), ?table⟩
  case table =>
    have hplace : (recordBytesLow p ++ recordBytesHigh p).length = 65 := by
      simp [recordBytesLow, recordBytesHigh, be16, be24]
    rw [hb, htable, ← List.append_assoc, ← hplace]
    exact ocvRead_append _ tail fun q hq => ⟨by have := hall q hq; omega, by have := hall q hq; omega⟩
  all_goals simp [recordBytesLow, be16, be24]

/-- The pulse engine's and the grade unit's values of bytes 0 to 31 read back; the pulse width shares its field with the
join limit, the smoothing factor with a weight (R198). -/
theorem gradingLow_read (h : gradingRanges p = true) (hjoin : p.joinLimit ≤ 2000) (hw : p.wD ≤ 15) :
    u8 b 15 = p.pulseInterval ∧ s8 b 16 = p.pulseLow ∧ s8 b 17 = p.pulseHigh ∧ u16 b 18 = p.minimumStep
      ∧ u16 b 23 = p.minimumWindow ∧ u24 b 26 = p.ratedCapacity ∧ u24 b 29 = p.ratedResistance
      ∧ u24 b 20 / 4096 = p.pulseWidth ∧ u24 b 20 % 4096 = p.joinLimit
      ∧ u8 b 25 % 16 + 1 = p.smoothing ∧ u8 b 25 / 16 = p.wD := by
  simp only [gradingRanges, temperatureOk, Bool.and_eq_true, decide_eq_true_eq, and_assoc] at h
  obtain ⟨-, hwidth, -, hint, hpl, hpl', hph, hph', -, -, hstep, -, -, hwin, hsm, hsm', -, hcap, -, hres, -⟩ := h
  simp only [Config.max24] at hcap hres
  have hpulse : u24 b 20 = p.pulseWidth * 4096 + p.joinLimit :=
    u24_low hb (by simp [recordBytesLow, be16, be24]) (by omega)
  have hsmooth : u8 b 25 = p.wD * 16 + (p.smoothing - 1) := u8_low hb (by simp [recordBytesLow, be16, be24]) (by omega)
  refine ⟨u8_low hb ?_ (by omega), s8_low hb ?_ (by omega) (by omega), s8_low hb ?_ (by omega) (by omega),
    u16_low hb ?_ (by omega), u16_low hb ?_ (by omega), u24_low hb ?_ (by omega), u24_low hb ?_ (by omega),
    by omega, by omega, by omega, by omega⟩
  all_goals simp [recordBytesLow, be16, be24]

/-- The class thresholds read back (R198). -/
theorem thresholds_read (h : gradingRanges p = true) :
    u16 b 32 = p.sA ∧ u16 b 34 = p.sB ∧ u16 b 36 = p.sC ∧ u16 b 38 = p.rA ∧ u16 b 40 = p.rB ∧ u16 b 42 = p.rC
      ∧ u16 b 44 = p.dA ∧ u16 b 46 = p.dB ∧ u16 b 48 = p.dC := by
  simp only [gradingRanges, Bool.and_eq_true, decide_eq_true_eq, and_assoc] at h
  obtain ⟨-, -, -, -, -, -, -, -, -, -, -, -, -, -, -, -, -, -, hsA, hsB, hsC, hrA, hrB, hrC, hdA, hdB, hdC⟩ := h
  refine ⟨u16_high hb ?_ (by omega), u16_high hb ?_ (by omega), u16_high hb ?_ (by omega), u16_high hb ?_ (by omega),
    u16_high hb ?_ (by omega), u16_high hb ?_ (by omega), u16_high hb ?_ (by omega), u16_high hb ?_ (by omega),
    u16_high hb ?_ (by omega)⟩
  all_goals simp [recordBytesHigh, be16]

/-- The link's, the peer table's, the bond engine's and the numbering's values read back (R198). -/
theorem pairing_read (h : pairingRanges p = true) :
    u8 b 50 = p.holdoff ∧ u8 b 51 = p.announceInterval ∧ u16 b 53 = p.matchLimit ∧ u8 b 55 = p.peerAgeLimit
      ∧ u8 b 56 = p.backoff ∧ u8 b 57 = p.proposalInterval ∧ u16 b 61 = p.acceptanceMargin ∧ u8 b 63 = p.partnerTimeout
      ∧ u8 b 64 = p.nodeNumber ∧ u8 b 52 / 16 = p.wC ∧ u8 b 52 % 16 = p.wR ∧ u24 b 58 / 4096 = p.replyTime
      ∧ u24 b 58 % 4096 = p.holdTime := by
  simp only [pairingRanges, Bool.and_eq_true, decide_eq_true_eq, and_assoc] at h
  obtain ⟨-, hoff, -, hann, hwC, hwR, -, hmatch, -, hage, -, hback, -, hprop, -, hreply, -, hhold, hmargin, -, hpartner, -, -,
    hnum⟩ := h
  have hweights : u8 b 52 = p.wC * 16 + p.wR := u8_high hb (j := 20) (by simp [recordBytesHigh, be16, be24]) (by omega)
  have htimes : u24 b 58 = p.replyTime * 4096 + p.holdTime :=
    u24_high hb (j := 26) (by simp [recordBytesHigh, be16, be24]) (by omega)
  refine ⟨u8_high hb ?_ (by omega), u8_high hb ?_ (by omega), u16_high hb ?_ (by omega), u8_high hb ?_ (by omega),
    u8_high hb ?_ (by omega), u8_high hb ?_ (by omega), u16_high hb ?_ (by omega), u8_high hb ?_ (by omega),
    u8_high hb ?_ (by omega), by omega, by omega, by omega, by omega⟩
  all_goals simp [recordBytesHigh, be16, be24]

end Layout

/-- The ranges that go with a field two parts of the profile share. -/
theorem sharedRanges {p : Profile} (h : profileValid p = true) :
    p.gateCode ≤ 6 ∧ p.toleranceCode ≤ 3 ∧ p.bitRateCode ≤ 3 ∧ p.alpha ≤ 30 ∧ p.joinLimit ≤ 2000 ∧ p.wD ≤ 15 := by
  simp only [profileValid, measurementRanges, gradingRanges, pairingRanges, Bool.and_eq_true, decide_eq_true_eq] at h
  omega

theorem profileValid_iff (p : Profile) :
    profileValid p = true ↔ measurementRanges p = true ∧ gradingRanges p = true ∧ pairingRanges p = true := by
  simp only [profileValid, Bool.and_eq_true, and_assoc]

/-- Every value of a valid profile is read back from its record (R198). -/
theorem readProfile_record {p : Profile} (h : profileValid p = true) (tail : List Byte) :
    readProfile (encodeRecord p ++ tail) = p := by
  obtain ⟨hm, hg, hp⟩ := (profileValid_iff p).1 h
  obtain ⟨hgate, htol, hrate, halpha, hjoin, hw⟩ := sharedRanges h
  have hb := (encodeRecord_append p tail).trans (List.append_assoc _ _ _)
  generalize encodeRecord p ++ tail = b at hb
  obtain ⟨m1, m2, m3, m4, m5, m6, m7, m8, m9, m10⟩ := measurement_read hb hm rfl
  obtain ⟨c1, c2, c3, c4⟩ := packedCodes_read hb hgate htol hrate
  obtain ⟨o1, o2, o3, -⟩ := packedOptions_read hb halpha
  obtain ⟨g1, g2, g3, g4, g5, g6, g7, g8, g9, g10, g11⟩ := gradingLow_read hb hg hjoin hw
  obtain ⟨t1, t2, t3, t4, t5, t6, t7, t8, t9⟩ := thresholds_read hb hg
  obtain ⟨p1, p2, p3, p4, p5, p6, p7, p8, p9, p10, p11, p12, p13⟩ := pairing_read hb hp
  simp only [readProfile, m1, m2, m3, m4, m5, m6, m7, m8, m9, m10, c1, c2, c3, c4, o1, o2, o3, g1, g2, g3, g4, g5, g6, g7, g8,
    g9, g10, g11, t1, t2, t3, t4, t5, t6, t7, t8, t9, p1, p2, p3, p4, p5, p6, p7, p8, p9, p10, p11, p12, p13]

/-- The two check bytes at the record's end are the profile check value (R168, R197). -/
theorem u16_checkBytes (l tail : List Byte) :
    BitVec.ofNat 16 (u16 (l ++ (checkBytes l ++ tail)) l.length) = crc l := by
  have hhigh : u8 (l ++ (checkBytes l ++ tail)) l.length = (crc l).toNat / 256 := by
    rw [u8, ← Nat.add_zero l.length, getD_append_add]
    simp [checkBytes, BitVec.extractLsb'_toNat]
    omega
  have hlow : u8 (l ++ (checkBytes l ++ tail)) (l.length + 1) = (crc l).toNat % 256 := by
    rw [u8, getD_append_add]
    simp [checkBytes, BitVec.extractLsb'_toNat]
  rw [u16, hhigh, hlow]
  apply BitVec.eq_of_toNat_eq
  rw [BitVec.toNat_ofNat]
  omega

/-- Settles O13: the six tests of R168 on an encoded record, in their order. -/
theorem recordRoundTrip : Obligations.RecordRoundTrip := by
  unfold Obligations.RecordRoundTrip
  intro p tail h
  have hb := (encodeRecord_append p tail).trans (List.append_assoc _ _ _)
  have hlen := encodeRecord_length p
  obtain ⟨hm, -, -⟩ := (profileValid_iff p).1 h
  obtain ⟨-, -, -, halpha, -⟩ := sharedRanges h
  obtain ⟨-, -, -, hpoints, -⟩ := measurement_read hb hm rfl
  obtain ⟨-, -, -, hbit⟩ := packedOptions_read hb halpha
  have htype : u8 (encodeRecord p ++ tail) 0 = 0x5A := by
    rw [u8, byte_of_low hb (x := 0x5A#8) (by simp [recordBytesLow])]
    rfl
  have hversion : u8 (encodeRecord p ++ tail) 1 = 1 := by
    rw [u8, byte_of_low hb (x := 0x01#8) (by simp [recordBytesLow])]
    rfl
  have hcount : 2 ≤ p.ocv.length ∧ p.ocv.length ≤ 16 := by
    simp only [measurementRanges, Bool.and_eq_true, decide_eq_true_eq] at hm
    omega
  have hcheck : crc ((encodeRecord p ++ tail).take (67 + 4 * p.ocv.length)) = 0#16 := by
    rw [← hlen, List.take_left]
    exact crc_append_checkBytes _
  have hvalue : BitVec.ofNat 16 (u16 (encodeRecord p ++ tail) (67 + 4 * p.ocv.length - 2)) = crc (recordBody p) := by
    rw [encodeRecord, List.append_assoc, show 67 + 4 * p.ocv.length - 2 = (recordBody p).length by
      rw [recordBody_length]; omega]
    exact u16_checkBytes _ _
  have hlong : ¬ (encodeRecord p ++ tail).length < 67 + 4 * p.ocv.length := by
    rw [List.length_append, hlen]
    omega
  refine ⟨?_, hlen⟩
  simp only [parseRecord, recordLength, hpoints]
  rw [if_neg (not_not.2 htype), if_neg (not_not.2 hversion), if_neg (not_not.2 hcount), if_neg hlong,
    if_neg (not_not.2 hcheck), if_neg (not_not.2 hbit), readProfile_record h tail, if_pos h, hvalue]

/-- Settles O14: a record that parses has passed each of the six tests. -/
theorem parsedRecordIsValid : Obligations.ParsedRecordIsValid := by
  unfold Obligations.ParsedRecordIsValid
  intro bytes r h
  simp only [parseRecord, Option.ite_none_left_eq_some, Option.ite_none_right_eq_some] at h
  obtain ⟨htype, hversion, hcount, -, hcheck, -, hvalid, hr⟩ := h
  obtain rfl := Option.some.inj hr
  exact ⟨hvalid, BitVec.eq_of_toNat_eq (not_not.1 htype), BitVec.eq_of_toNat_eq (not_not.1 hversion), not_not.1 hcheck,
    (not_not.1 hcount).1, (not_not.1 hcount).2⟩

end Sys2Proof.Machine
end

section
/-! SUPPORT. The answers of a command as equations, what follows at the end of an event (R97, R187), the exits of the bond engine in
the terms of the statements (R141 to R156), and the grade unit's event (R54, R55). Settles O3, O20 and O21. -/

namespace Sys2Proof.Machine

variable {s : State}

/-! ## Answers -/

theorem whenever_of {p : Bool} {n : State} (h : p = true) : whenever p s n = .next (settle n) := by rw [h]; rfl

theorem whenever_not {p : Bool} {n : State} (h : p = false) : whenever p s n = .next s := by rw [h]; rfl

/-- A line command in RUN where the line has shown its event. -/
theorem lineStep_of {bits : List Bool} {shown : State → Bool} {effect : State → State} (hr : inRun s = true)
    (hs : shown (sampled bits s) = true) : lineStep bits shown effect s = .next (settle (effect (sampled bits s))) := by
  rw [lineStep, whenever_of hr, if_pos hs]

/-- A line command in RUN where the line has not shown its event only samples (log entry 6). -/
theorem lineStep_not {bits : List Bool} {shown : State → Bool} {effect : State → State} (hr : inRun s = true)
    (hs : shown (sampled bits s) = false) : lineStep bits shown effect s = .next (settle (sampled bits s)) := by
  rw [lineStep, whenever_of hr, hs, if_neg Bool.false_ne_true]

/-! ## What follows at the end of an event -/

/-- Segments of `k` members, in order, make up a list as far as they reach. -/
theorem flatMap_segments {α : Type} (l : List α) (k n : Nat) :
    (List.range n).flatMap (fun i => (l.drop (k * i)).take k) = l.take (k * n) := by
  induction n with
  | zero => simp
  | succ n ih => rw [List.range_succ, List.flatMap_append, ih, List.flatMap_singleton, Nat.mul_succ, List.take_add]

theorem segmentCount_eq (s : State) : segmentCount s = ((encodeRecord (prof s)).length + 31) / 32 := rfl

theorem segmentFrame_eq (s : State) (i : Nat) :
    segmentFrame s i = ⟨0xFF#8, byteOf (s.comm.held.getD 0), 0x0B#8,
      [byteOf i, byteOf (((encodeRecord (prof s)).length + 31) / 32), byteOf (encodeRecord (prof s)).length]
        ++ ((encodeRecord (prof s)).drop (32 * i)).take 32⟩ := rfl

/-- The end of an event on the state the segment feed leaves: the pins and, outside OFF, the check value. -/
theorem settle_eq (s : State) :
    settle s = { feedSegment s with
      pins := (settle s).pins
      dom := { s.dom with check := if s.supply.state = .off then s.dom.check else retentionCheck s.ret } } := by
  have hdom : (feedSegment s).dom = s.dom := (feedSegment_frame s).2.2.1
  have hsup : (drivePins (feedSegment s)).supply.state = s.supply.state :=
    congrArg Supply.state (feedSegment_frame s).2.1
  by_cases hoff : s.supply.state = .off
  · rw [if_pos hoff, settle, reseal_off _ (hsup.trans hoff), ← hdom]
    rfl
  · have hret : (drivePins (feedSegment s)).ret = s.ret := congrArg Domain.ret hdom
    rw [if_neg hoff, settle, reseal_on _ (hsup ▸ hoff), hret, show (drivePins (feedSegment s)).dom = s.dom from hdom]
    rfl

/-- Of the pins only the driven outputs follow, and SCS is inactive. -/
theorem settle_pins_eq (s : State) :
    (settle s).pins = { s.pins with
      chainOut := (settle s).pins.chainOut, load := (settle s).pins.load, alert := (settle s).pins.alert
      busDominant := (settle s).pins.busDominant, scs := false } := by
  have hpins : (feedSegment s).pins = s.pins := (feedSegment_frame s).2.2.2.2.2.2.2.2.2.1
  have hsettled : (settle s).pins = (drivePins (feedSegment s)).pins := by
    unfold settle
    rcases reseal_cases (drivePins (feedSegment s)) with h | h <;> rw [h]
    rfl
  rw [hsettled, drivePins, State.setPins_pins, hpins]

/-- The segment that is due enters the queue at its end (R97, R173). -/
theorem feedSegment_feeds {i : Nat} (hi : s.comm.share = some i) (hmode : s.link.mode = .up)
    (hroom : s.link.queue.length < 4) (hnone : s.link.queue.any isSegment = false) :
    feedSegment s = { s with
      link := { s.link with
        queue := s.link.queue ++ [segmentFrame s i]
        transmitter := if s.link.transmitter = .idle then .wait else s.link.transmitter }
      comm := { s.comm with share := if i + 1 < segmentCount s then some (i + 1) else none } } := by
  have hfollows : transmitterFollows { s.link with queue := s.link.queue ++ [segmentFrame s i] } =
      { s.link with
        queue := s.link.queue ++ [segmentFrame s i]
        transmitter := if s.link.transmitter = .idle then .wait else s.link.transmitter } := by
    cases ht : s.link.transmitter <;> simp [transmitterFollows, ht]
  have hguard : s.link.mode = .up ∧ s.link.queue.length < Config.queuePlaces ∧ s.link.queue.any isSegment = false :=
    ⟨hmode, hroom, hnone⟩
  unfold feedSegment
  rw [hi]
  refine (if_pos hguard).trans ?_
  rw [hfollows]
  rfl

/-- No segment is fed while the link has no use for one. -/
theorem feedSegment_refused {i : Nat} (hi : s.comm.share = some i)
    (h : ¬ (s.link.mode = .up ∧ s.link.queue.length < 4 ∧ s.link.queue.any isSegment = false)) : feedSegment s = s := by
  unfold feedSegment
  rw [hi]
  exact if_neg h

/-- Settles O3: the segment feed first, then the pins and the check value. -/
theorem settleFrame : Obligations.SettleFrame := by
  unfold Obligations.SettleFrame
  intro s pins dom feeds record count
  have hend : settle s = { feedSegment s with pins := pins, dom := dom } :=
    (settle_eq s).trans (congrArg (fun x => { feedSegment s with pins := x, dom := dom }) (settle_pins_eq s))
  have hcover : record.length ≤ 32 * count := by
    show record.length ≤ 32 * ((record.length + 31) / 32)
    omega
  refine ⟨rfl, fun i => ⟨rfl, fun hi => ?_, fun hi => ?_⟩, ?_, fun hshare => ?_, fun i hshare => ⟨fun hno => ?_, fun hfeeds => ?_⟩⟩
  · have : 32 * i + 32 ≤ record.length := by
      have : i + 1 < (record.length + 31) / 32 := hi
      omega
    rw [segmentFrame_eq, List.length_append, List.length_take, List.length_drop]
    show 3 + min 32 (record.length - 32 * i) = 35
    omega
  · have : record.length - 32 * i ≤ 32 := by
      rw [← hi] at hcover
      omega
    rw [segmentFrame_eq, List.length_append, List.length_take, List.length_drop, ← hi]
    show 3 + min 32 (record.length - 32 * i) = 3 + (record.length - 32 * (i + 1 - 1))
    omega
  · show (List.range count).flatMap (fun i => (record.drop (32 * i)).take 32) = record
    rw [flatMap_segments, List.take_of_length_le hcover]
  · rw [hend, feedSegment_idle s hshare]
  · rw [hend, feedSegment_refused hshare hno]
  · rw [hend, feedSegment_feeds hshare hfeeds.1 hfeeds.2.1 hfeeds.2.2]

/-- Of the link the end of an event touches the queue and the transmitter only. -/
theorem settle_link_eq (s : State) :
    (settle s).link = { s.link with queue := (settle s).link.queue, transmitter := (settle s).link.transmitter } := by
  rw [settle_link]
  rcases feedSegment_cases s with h | ⟨i, -, -, -, -, h⟩ <;> rw [h]
  simp only [State.setComm_link, State.setLink_link]
  cases s.link.transmitter <;> simp [transmitterFollows]

/-- Of the commissioning unit the end of an event touches the share broadcast only. -/
theorem settle_comm_eq (s : State) : (settle s).comm = { s.comm with share := (settle s).comm.share } := by
  rw [settle_comm]
  rcases feedSegment_cases s with h | ⟨i, -, -, -, -, h⟩ <;> rw [h]
  rfl

@[simp] theorem settle_fifo (s : State) : (settle s).link.fifo = s.link.fifo := by rw [settle_link_eq]
@[simp] theorem settle_mode (s : State) : (settle s).link.mode = s.link.mode := by rw [settle_link_eq]
@[simp] theorem settle_receiver (s : State) : (settle s).link.receiver = s.link.receiver := by rw [settle_link_eq]
@[simp] theorem settle_closed (s : State) : (settle s).link.closed = s.link.closed := by rw [settle_link_eq]
@[simp] theorem settle_lineFault (s : State) : (settle s).link.lineFault = s.link.lineFault := by rw [settle_link_eq]
@[simp] theorem settle_overrunFlag (s : State) : (settle s).link.overrunFlag = s.link.overrunFlag := by rw [settle_link_eq]
@[simp] theorem settle_commState (s : State) : (settle s).comm.state = s.comm.state := by rw [settle_comm_eq]
@[simp] theorem settle_numbering (s : State) : (settle s).comm.numbering = s.comm.numbering := by rw [settle_comm_eq]
@[simp] theorem settle_method (s : State) : (settle s).comm.method = s.comm.method := by rw [settle_comm_eq]
@[simp] theorem settle_claim (s : State) : (settle s).comm.claim = s.comm.claim := by rw [settle_comm_eq]
@[simp] theorem settle_held (s : State) : (settle s).comm.held = s.comm.held := by rw [settle_comm_eq]
@[simp] theorem settle_highest (s : State) : (settle s).comm.highest = s.comm.highest := by rw [settle_comm_eq]
@[simp] theorem settle_quietTimer (s : State) : (settle s).comm.quietTimer = s.comm.quietTimer := by rw [settle_comm_eq]
@[simp] theorem settle_requestTimer (s : State) : (settle s).comm.requestTimer = s.comm.requestTimer := by rw [settle_comm_eq]
@[simp] theorem settle_buffer (s : State) : (settle s).comm.buffer = s.comm.buffer := by rw [settle_comm_eq]
@[simp] theorem settle_memoryCommand (s : State) : (settle s).comm.memoryCommand = s.comm.memoryCommand := by rw [settle_comm_eq]

/-! ## The exits of the bond engine -/

theorem disengage_eq (next : BondState) (s : State) : disengage next s = unengaged next (withdrawPropose s) := rfl

theorem disengageMarked_eq (n : Nat) (r : DeclineReason) (s : State) :
    disengageMarked n r s = unengaged .free (marked n r (withdrawPropose s)) := rfl

theorem withdrawPropose_of_not_proposing (h : s.ret.bondState ≠ .proposing) : withdrawPropose s = s := by
  rcases withdrawPropose_cases s with hs | ⟨-, hb, -⟩
  · exact hs
  · exact absurd hb h

theorem withdrawPropose_proposing {n : Nat} (hb : s.ret.bondState = .proposing) (he : s.ret.engaged = some n) :
    withdrawPropose s = withoutPropose n s := by
  unfold withdrawPropose withoutPropose
  rw [hb, he]
  dsimp only
  split <;> rfl

theorem disengage_of_not_proposing (next : BondState) (h : s.ret.bondState ≠ .proposing) :
    disengage next s = unengaged next s := by
  rw [disengage_eq, withdrawPropose_of_not_proposing h]

theorem disengage_proposing (next : BondState) {n : Nat} (hb : s.ret.bondState = .proposing) (he : s.ret.engaged = some n) :
    disengage next s = unengaged next (withoutPropose n s) := by
  rw [disengage_eq, withdrawPropose_proposing hb he]

theorem disengageMarked_proposing (r : DeclineReason) {n : Nat} (hb : s.ret.bondState = .proposing)
    (he : s.ret.engaged = some n) : disengageMarked n r s = unengaged .free (marked n r (withoutPropose n s)) := by
  rw [disengageMarked_eq, withdrawPropose_proposing hb he]

/-- The partner of a bond is told, and the engagement is over. -/
theorem releasePartner_engaged (r : ReleaseReason) (next : BondState) {n : Nat} (hb : s.ret.bondState ≠ .proposing)
    (he : s.ret.engaged = some n) :
    releasePartner r next s = unengaged next (offering (byteOf n) 0x07#8 [releaseCode r] s) := by
  unfold releasePartner
  rw [he]
  exact disengage_of_not_proposing next hb

/-- The state with another queue and the transmitter that goes with it. -/
def requeued (q : List Frame) (t : TransmitterState) (s : State) : State :=
  s.setLink { s.link with queue := q, transmitter := t }

theorem offer_requeued (f : Frame) (s : State) : ∃ q t, offer f s = requeued q t s :=
  ⟨_, _, congrArg s.setLink (offerFrame_frame s.link f)⟩

theorem withdrawPropose_requeued (s : State) : ∃ q t, withdrawPropose s = requeued q t s := by
  rcases withdrawPropose_cases s with h | ⟨n, -, -, -, h⟩
  · exact ⟨s.link.queue, s.link.transmitter, h⟩
  · exact ⟨_, _, h.trans (congrArg s.setLink (withdrawFrame_frame s.link _))⟩

/-- An exit changes the queue by what it withdraws or offers; the rest is that of `unengaged`. -/
theorem disengage_requeued (next : BondState) (s : State) : ∃ q t, disengage next s = unengaged next (requeued q t s) := by
  obtain ⟨q, t, h⟩ := withdrawPropose_requeued s
  exact ⟨q, t, congrArg (unengaged next) h⟩

theorem releasePartner_requeued (r : ReleaseReason) (next : BondState) (s : State) :
    ∃ q t, releasePartner r next s = unengaged next (requeued q t s) := by
  unfold releasePartner
  split
  next n he =>
    obtain ⟨q, t, h⟩ := offer_requeued (releaseFrame s n r) s
    obtain ⟨q', t', h'⟩ := disengage_requeued next (requeued q t s)
    exact ⟨q', t', (congrArg _ h).trans h'⟩
  next => exact disengage_requeued next s

/-! ## The readiness test -/

theorem readinessTest_of_not (h : s.ret.bondState ≠ .unready ∨ recordComplete s.grade = false ∨ s.link.mode ≠ .up
    ∨ s.ret.activity ≠ .active) : readinessTest s = s := by
  unfold readinessTest
  refine if_neg fun ⟨hb, hready⟩ => ?_
  simp only [engineReady, Bool.and_eq_true, decide_eq_true_eq] at hready
  obtain ⟨⟨hc, hm⟩, ha⟩ := hready
  rcases h with h | h | h | h
  · exact h hb
  · exact Bool.false_ne_true (h.symm.trans hc)
  · exact h hm
  · exact h ha

theorem readinessTest_without_class (h : s.grade.gradeClass = none) : readinessTest s = s := by
  unfold readinessTest
  rw [h]
  exact ite_self s

theorem readinessTest_ready (hb : s.ret.bondState = .unready) (hc : recordComplete s.grade = true) (hm : s.link.mode = .up)
    (ha : s.ret.activity = .active) {k : GradeClass} (hk : s.grade.gradeClass = some k) :
    readinessTest s = setBondState (if k = .x then .rejected else .free) none s := by
  unfold readinessTest engineReady
  rw [if_pos ⟨hb, by simp [hc, hm, ha]⟩, hk]
  cases k <;> rfl

/-- The readiness test changes the bond state or nothing. -/
theorem readinessTest_cases (s : State) : readinessTest s = s ∨ (s.ret.bondState = .unready ∧ recordComplete s.grade = true
    ∧ s.link.mode = .up ∧ s.ret.activity = .active
    ∧ ∃ k, s.grade.gradeClass = some k ∧ readinessTest s = setBondState (if k = .x then .rejected else .free) none s) := by
  by_cases h : s.ret.bondState = .unready ∧ recordComplete s.grade = true ∧ s.link.mode = .up ∧ s.ret.activity = .active
  · obtain ⟨hb, hc, hm, ha⟩ := h
    cases hk : s.grade.gradeClass with
    | none => exact .inl (readinessTest_without_class hk)
    | some k => exact .inr ⟨hb, hc, hm, ha, k, rfl, readinessTest_ready hb hc hm ha hk⟩
  · refine .inl (readinessTest_of_not ?_)
    by_contra hn
    push Not at hn
    exact h ⟨hn.1, by simpa using hn.2.1, hn.2.2.1, hn.2.2.2⟩

/-! ## An own epoch rise at the bond engine -/

/-- FREE, or REJECTED for the class X. -/
theorem freeOrRejected_eq (s : State) : freeOrRejected s = if s.grade.gradeClass = some .x then .rejected else .free := rfl

section Rise

variable {before : Option GradeClass}

theorem bondEpochRise_unready (h : s.ret.bondState = .unready) : bondEpochRise before s = readinessTest s := by
  simp only [bondEpochRise, h]

/-- A record made incomplete takes the engine to UNREADY, a partner told (R141). -/
theorem bondEpochRise_incomplete_bond (hc : recordComplete s.grade = false) {n : Nat}
    (hb : s.ret.bondState = .bonded ∨ s.ret.bondState = .bondedSilent) (he : s.ret.engaged = some n) :
    bondEpochRise before s = unengaged .unready (offering (byteOf n) 0x07#8 [0x02#8] s) := by
  have hrel : releasePartner .regrade .unready s = unengaged .unready (offering (byteOf n) 0x07#8 [0x02#8] s) :=
    releasePartner_engaged .regrade .unready (by rcases hb with h | h <;> simp [h]) he
  rcases hb with h | h <;> simp only [bondEpochRise, h, hc, if_true, hrel]

theorem bondEpochRise_incomplete (hc : recordComplete s.grade = false) (hu : s.ret.bondState ≠ .unready)
    (hb : bondStands s.ret.bondState = false) : bondEpochRise before s = disengage .unready s := by
  cases h : s.ret.bondState <;> simp_all [bondEpochRise, bondStands]

/-- FREE and REJECTED follow the own class (R141). -/
theorem bondEpochRise_unengaged (hc : recordComplete s.grade = true)
    (hb : s.ret.bondState = .free ∨ s.ret.bondState = .rejected) :
    bondEpochRise before s = if freeOrRejected s = s.ret.bondState then s else unengaged (freeOrRejected s) s := by
  have hdis := fun next => disengage_of_not_proposing (s := s) next (by rcases hb with h | h <;> simp [h])
  rcases hb with h | h <;> by_cases hx : s.grade.gradeClass = some .x <;> simp [bondEpochRise, freeOrRejected, h, hc, hx, hdis]

/-- A handshake ends at a change of the own class (R141). -/
theorem bondEpochRise_handshake (hc : recordComplete s.grade = true)
    (hb : s.ret.bondState = .proposing ∨ s.ret.bondState = .held) :
    bondEpochRise before s = if s.grade.gradeClass = before then s else disengage (freeOrRejected s) s := by
  rcases hb with h | h <;> simp [bondEpochRise, h, hc]

/-- A bond ends where the own class is no longer the bond class, unless frozen (R156). -/
theorem bondEpochRise_bonded (hc : recordComplete s.grade = true) (hb : s.ret.bondState = .bonded) :
    bondEpochRise before s = if s.grade.gradeClass ≠ s.bond.bondClass ∧ s.ret.freeze = false then
      releasePartner .classChange (freeOrRejected s) s else s := by
  simp only [bondEpochRise, hb, hc, Bool.true_eq_false, if_false]

theorem bondEpochRise_bondedSilent (hc : recordComplete s.grade = true) (hb : s.ret.bondState = .bondedSilent) :
    bondEpochRise before s = s := by
  simp only [bondEpochRise, hb, hc, Bool.true_eq_false, if_false]

theorem bondStands_freeOrRejected (s : State) : bondStands (freeOrRejected s) = false := by
  unfold freeOrRejected
  split <;> rfl

/-- An exit from an engagement to a state in which no bond stands. -/
def Exits (s u : State) : Prop := ∃ q t b, bondStands b = false ∧ u = unengaged b (requeued q t s)

theorem disengage_exits {next : BondState} (s : State) (h : bondStands next = false) : Exits s (disengage next s) :=
  (disengage_requeued next s).imp fun _ h' => h'.imp fun _ h' => ⟨next, h, h'⟩

theorem releasePartner_exits (r : ReleaseReason) {next : BondState} (s : State) (h : bondStands next = false) :
    Exits s (releasePartner r next s) :=
  (releasePartner_requeued r next s).imp fun _ h' => h'.imp fun _ h' => ⟨next, h, h'⟩

/-- What a rise can do: nothing, a change of the bond state out of UNREADY, or an exit from an engagement. -/
theorem bondEpochRise_cases (before : Option GradeClass) (s : State) :
    bondEpochRise before s = s ∨ (∃ b, bondStands b = false ∧ bondEpochRise before s = setBondState b none s)
      ∨ Exits s (bondEpochRise before s) := by
  have hout : Exits s (disengage .unready s) := disengage_exits s rfl
  have hfollow : Exits s (disengage (freeOrRejected s) s) := disengage_exits s (bondStands_freeOrRejected s)
  have hregrade : Exits s (releasePartner .regrade .unready s) := releasePartner_exits _ s rfl
  have hchange : Exits s (releasePartner .classChange (freeOrRejected s) s) :=
    releasePartner_exits _ s (bondStands_freeOrRejected s)
  cases hb : s.ret.bondState with
  | unready =>
    rw [bondEpochRise_unready hb]
    rcases readinessTest_cases s with h | ⟨-, -, -, -, k, -, h⟩
    · exact .inl h
    · exact .inr (.inl ⟨_, by split <;> rfl, h⟩)
  | free =>
    simp only [bondEpochRise, hb]
    split_ifs
    · exact .inr (.inr hout)
    · exact .inr (.inr (disengage_exits s rfl))
    · exact .inl rfl
  | rejected =>
    simp only [bondEpochRise, hb]
    split_ifs
    · exact .inr (.inr hout)
    · exact .inl rfl
    · exact .inr (.inr (disengage_exits s rfl))
  | proposing =>
    simp only [bondEpochRise, hb]
    split_ifs
    · exact .inr (.inr hout)
    · exact .inr (.inr hfollow)
    · exact .inl rfl
  | held =>
    simp only [bondEpochRise, hb]
    split_ifs
    · exact .inr (.inr hout)
    · exact .inr (.inr hfollow)
    · exact .inl rfl
  | bonded =>
    simp only [bondEpochRise, hb]
    split_ifs
    · exact .inr (.inr hregrade)
    · exact .inr (.inr hchange)
    · exact .inl rfl
  | bondedSilent =>
    simp only [bondEpochRise, hb]
    split_ifs
    · exact .inr (.inr hregrade)
    · exact .inl rfl

/-- Of the retained items a rise changes the bond state and the engaged number only. -/
theorem bondEpochRise_ret (before : Option GradeClass) (s : State) :
    (bondEpochRise before s).ret = { s.ret with
      bondState := (bondEpochRise before s).ret.bondState, engaged := (bondEpochRise before s).ret.engaged } := by
  rcases bondEpochRise_cases before s with h | ⟨b, -, h⟩ | ⟨q, t, b, -, h⟩ <;> rw [h] <;> rfl

theorem bondEpochRise_grade (before : Option GradeClass) (s : State) : (bondEpochRise before s).grade = s.grade := by
  rcases bondEpochRise_cases before s with h | ⟨b, -, h⟩ | ⟨q, t, b, -, h⟩ <;> rw [h] <;> rfl

/-- The table after a rise: as it was, or unpinned. -/
theorem bondEpochRise_table (before : Option GradeClass) (s : State) :
    (bondEpochRise before s).table = s.table ∨ (bondEpochRise before s).table = unpin (prof s) s.seconds s.table := by
  rcases bondEpochRise_cases before s with h | ⟨b, -, h⟩ | ⟨q, t, b, -, h⟩ <;> rw [h]
  · exact .inl rfl
  · exact .inl rfl
  · exact .inr rfl

/-- A record made incomplete leaves UNREADY (R140, R141). -/
theorem bondEpochRise_incomplete_state (hc : recordComplete s.grade = false) :
    (bondEpochRise before s).ret.bondState = .unready := by
  by_cases hu : s.ret.bondState = .unready
  · rw [bondEpochRise_unready hu, readinessTest_of_not (.inr (.inl hc)), hu]
  · cases hb : bondStands s.ret.bondState with
    | false => rw [bondEpochRise_incomplete hc hu hb]; rfl
    | true =>
      obtain ⟨q, t, hl⟩ := releasePartner_requeued .regrade .unready s
      have hr : bondEpochRise before s = releasePartner .regrade .unready s := by
        cases h : s.ret.bondState <;> simp_all [bondEpochRise, bondStands]
      rw [hr, hl]
      rfl

theorem bondEpochRise_held_exit (hb : s.ret.bondState = .held) :
    (recordComplete s.grade = false → bondEpochRise before s = unengaged .unready s)
      ∧ (recordComplete s.grade = true → s.grade.gradeClass ≠ before →
          bondEpochRise before s = unengaged (freeOrRejected s) s) := by
  have hdis := fun next => disengage_of_not_proposing (s := s) next (by simp [hb])
  refine ⟨fun hc => ?_, fun hc hk => ?_⟩
  · rw [bondEpochRise_incomplete hc (by simp [hb]) (by simp [hb, bondStands]), hdis]
  · rw [bondEpochRise_handshake hc (.inr hb), if_neg hk, hdis]

theorem bondEpochRise_proposing_exit {n : Nat} (hb : s.ret.bondState = .proposing) (he : s.ret.engaged = some n) :
    (recordComplete s.grade = false → bondEpochRise before s = unengaged .unready (withoutPropose n s))
      ∧ (recordComplete s.grade = true → s.grade.gradeClass ≠ before →
          bondEpochRise before s = unengaged (freeOrRejected s) (withoutPropose n s)) := by
  refine ⟨fun hc => ?_, fun hc hk => ?_⟩
  · rw [bondEpochRise_incomplete hc (by simp [hb]) (by simp [hb, bondStands]), disengage_proposing _ hb he]
  · rw [bondEpochRise_handshake hc (.inl hb), if_neg hk, disengage_proposing _ hb he]

theorem bondEpochRise_class_change {n : Nat} (hc : recordComplete s.grade = true) (hb : s.ret.bondState = .bonded)
    (hf : s.ret.freeze = false) (hk : s.grade.gradeClass ≠ s.bond.bondClass) (he : s.ret.engaged = some n) :
    bondEpochRise before s = unengaged (freeOrRejected s) (offering (byteOf n) 0x07#8 [0x03#8] s) := by
  rw [bondEpochRise_bonded hc hb, if_pos ⟨hk, hf⟩]
  exact releasePartner_engaged .classChange _ (by simp [hb]) he

end Rise

/-- Settles O21: the table of R141 and the class change of R156, state by state. -/
theorem epochRiseAtBond : Obligations.EpochRiseAtBond := by
  unfold Obligations.EpochRiseAtBond
  intro before s t ready own becomes
  have hunengaged : recordComplete s.grade = true → s.ret.bondState = .free ∨ s.ret.bondState = .rejected →
      t = if own = s.ret.bondState then s else unengaged own s := fun hc hb => bondEpochRise_unengaged hc hb
  have hfollows : recordComplete s.grade = true → s.ret.bondState = .free ∨ s.ret.bondState = .rejected →
      t.ret.bondState = own := fun hc hb => by
    rw [hunengaged hc hb]
    split
    next h => exact h.symm
    next => rfl
  refine ⟨fun hb => ⟨fun hready => ⟨fun hx => ?_, fun k hk hx => ?_⟩, fun hnot => ?_⟩,
    bondEpochRise_incomplete_state, fun hc n hb he => ?_, fun hc hb => hfollows hc (.inl hb),
    fun hc hb => hfollows hc (.inr hb), fun hc hb => ⟨fun hk => ?_, fun hk => ?_⟩,
    fun hleave => ⟨fun hb n he => ?_, fun hb => ?_⟩, fun hc hb => ⟨fun hk => ?_, fun hk hf => ?_⟩,
    bondEpochRise_bondedSilent, fun hb => ⟨fun hc => ?_, fun hc => hunengaged hc hb⟩, fun hb => bondEpochRise_held_exit hb,
    fun hb n he => bondEpochRise_proposing_exit hb he, fun hb n he =>
      ⟨fun hc => bondEpochRise_incomplete_bond hc hb he, fun hc hb hf hk => bondEpochRise_class_change hc hb hf hk he⟩⟩
  · exact (bondEpochRise_unready hb).trans (readinessTest_ready hb hready.1 hready.2.1 hready.2.2 hx)
  · refine (bondEpochRise_unready hb).trans ((readinessTest_ready hb hready.1 hready.2.1 hready.2.2 hk).trans ?_)
    rw [if_neg hx]
    rfl
  · refine (bondEpochRise_unready hb).trans ?_
    rcases hnot with hnot | hk
    · refine readinessTest_of_not ?_
      by_contra hall
      push Not at hall
      exact hnot ⟨by simpa using hall.2.1, hall.2.2.1, hall.2.2.2⟩
    · exact readinessTest_without_class hk
  · exact congrArg State.link (bondEpochRise_incomplete_bond hc hb he)
  · exact (bondEpochRise_handshake hc hb).trans (if_pos hk)
  · obtain ⟨q, k, hl⟩ := disengage_requeued own s
    have ht : t = unengaged own (requeued q k s) := ((bondEpochRise_handshake hc hb).trans (if_neg hk)).trans hl
    rw [ht]
    exact ⟨rfl, rfl, rfl, rfl, rfl⟩
  · obtain ⟨hout, hchange⟩ := bondEpochRise_proposing_exit (before := before) hb he
    cases hc : recordComplete s.grade with
    | false => exact (congrArg State.link (hout hc)).trans rfl
    | true => exact (congrArg State.link (hchange hc (hleave.resolve_left (by simp [hc])))).trans rfl
  · obtain ⟨hout, hchange⟩ := bondEpochRise_held_exit (before := before) hb
    cases hc : recordComplete s.grade with
    | false => exact (congrArg State.link (hout hc)).trans rfl
    | true => exact (congrArg State.link (hchange hc (hleave.resolve_left (by simp [hc])))).trans rfl
  · refine (bondEpochRise_bonded hc hb).trans (if_neg fun h => ?_)
    rcases hk with hk | hf
    · exact h.1 hk
    · exact Bool.false_ne_true (h.2.symm.trans hf)
  · obtain ⟨q, k, hl⟩ := releasePartner_requeued .classChange own s
    have ht : t = unengaged own (requeued q k s) := ((bondEpochRise_bonded hc hb).trans (if_pos ⟨hk, hf⟩)).trans hl
    refine ⟨?_, ?_, ?_, ?_, fun n he => congrArg State.link (bondEpochRise_class_change hc hb hf hk he)⟩ <;> rw [ht] <;> rfl
  · have hne : s.ret.bondState ≠ .proposing := by rcases hb with h | h <;> simp [h]
    refine (bondEpochRise_incomplete hc ?_ ?_).trans (disengage_of_not_proposing _ hne)
    · rcases hb with h | h <;> simp [h]
    · rcases hb with h | h <;> simp [h, bondStands]

/-! ## The grade unit's event -/

/-- The published fields differ exactly where one of the nine does (R54). -/
theorem publishedDiffer_iff (a b : GradeRecord) : publishedDiffer a b = false ↔
    b.capacity = a.capacity ∧ b.estimateCount = a.estimateCount ∧ b.lastDeltaSoc = a.lastDeltaSoc ∧ b.soh = a.soh
      ∧ b.resistance = a.resistance ∧ b.r25c = a.r25c ∧ b.pulseTemperature = a.pulseTemperature ∧ b.sd = a.sd
      ∧ b.gradeClass = a.gradeClass := by
  simp only [publishedDiffer, Bool.not_eq_false', decide_eq_true_eq, GradeRecord.mk.injEq, eq_comm (a := b.capacity)]
  constructor <;> intro h <;> simp_all

/-- The record an event sets, its epoch raised (R54). -/
def raisedRecord (g : GradeRecord) (s : State) : GradeRecord :=
  { g with gradeClass := deriveClass (prof s) g, epoch := raisedEpoch s.grade.epoch }

/-- The state the bond engine is told of: the record set, the table scored anew (R55, R127). -/
def toldState (g : GradeRecord) (s : State) : State :=
  (s.setRet { s.ret with grade := raisedRecord g s }).setTable (rescoreTable (prof s) (raisedRecord g s) s.table)

theorem gradeEvent_unchanged {g : GradeRecord} (h : publishedDiffer s.grade { g with gradeClass := deriveClass (prof s) g } = false) :
    gradeEvent g s = s.setRet { s.ret with grade := { g with gradeClass := deriveClass (prof s) g } } := by
  unfold gradeEvent
  exact if_neg (by rw [h]; exact Bool.false_ne_true)

theorem gradeEvent_changed {g : GradeRecord} (h : publishedDiffer s.grade { g with gradeClass := deriveClass (prof s) g } = true) :
    gradeEvent g s = bondEpochRise s.grade.gradeClass (toldState g s) := by
  unfold gradeEvent
  exact if_pos h

/-- An entry that is not pinned with its age past stands through a rise. -/
theorem mem_bondEpochRise_table {before : Option GradeClass} {e : PeerEntry} (he : e ∈ s.table.entries)
    (hage : s.table.pin = some e.number → aged (prof s) s.seconds e = false) :
    e ∈ (bondEpochRise before s).table.entries := by
  rcases bondEpochRise_table before s with h | h <;> rw [h]
  · exact he
  · refine List.mem_filter.2 ⟨he, ?_⟩
    by_cases hp : s.table.pin = some e.number
    · simp [hp, hage hp]
    · simp [hp]

theorem bondEpochRise_table_sublist (before : Option GradeClass) (s : State) :
    (bondEpochRise before s).table.entries.Sublist s.table.entries := by
  rcases bondEpochRise_table before s with h | h <;> rw [h]
  exact List.filter_sublist

/-- Settles O20: one event of the grade unit, by whether a published field has changed. -/
theorem epochRisesOnChange : Obligations.EpochRisesOnChange := by
  unfold Obligations.EpochRisesOnChange
  intro g s hepoch setting record rescored told
  have hsame := publishedDiffer_iff s.grade { g with gradeClass := deriveClass (prof s) g }
  have htold : told = toldState g s := rfl
  refine ⟨?_, fun h => ?_, fun h => ?_⟩
  · cases hd : publishedDiffer s.grade { g with gradeClass := deriveClass (prof s) g } with
    | false => rw [gradeEvent_unchanged hd]; rfl
    | true => rw [gradeEvent_changed hd, bondEpochRise_grade]; rfl
  · have hun := gradeEvent_unchanged (hsame.2 h)
    exact ⟨(congrArg (fun t => t.grade.epoch) hun).trans hepoch, hun⟩
  · have hch := gradeEvent_changed (Bool.of_not_eq_false (mt hsame.1 h))
    have hperm : told.table.entries.Perm (s.table.entries.map rescored) := sortEntries_perm _
    have hgrade : (gradeEvent g s).grade = record := by rw [hch, bondEpochRise_grade]; rfl
    refine ⟨congrArg GradeRecord.epoch hgrade, hch, rfl, hperm, fun ho => ?_, fun e he hage => ?_, fun e he => ?_⟩
    · exact rescoreTable_ordered (prof s) record ho
    · rw [hch]
      refine mem_bondEpochRise_table (hperm.mem_iff.2 (List.mem_map_of_mem he)) fun hp => ?_
      exact decide_eq_false (Nat.not_le.2 (hage hp))
    · have hmem := (bondEpochRise_table_sublist _ _).subset (hch ▸ he)
      obtain ⟨e₀, -, rfl⟩ := List.mem_map.1 (hperm.mem_iff.1 hmem)
      exact ⟨rfl, hgrade ▸ rfl⟩

end Sys2Proof.Machine
end

section
/-! SUPPORT. What the bond engine and the grade unit neither read nor touch, and the grade unit's event field by field. -/

namespace Sys2Proof.Machine

/-- A change of the state that the operations of the bond engine and the grade unit neither read nor touch. -/
structure Bystander (f : State → State) : Prop where
  link : ∀ s, (f s).link = s.link
  table : ∀ s, (f s).table = s.table
  bond : ∀ s, (f s).bond = s.bond
  comm : ∀ s, (f s).comm = s.comm
  seconds : ∀ s, (f s).seconds = s.seconds
  prof : ∀ s, prof (f s) = Machine.prof s
  grade : ∀ s, (f s).grade = s.grade
  bondState : ∀ s, (f s).ret.bondState = s.ret.bondState
  engaged : ∀ s, (f s).ret.engaged = s.ret.engaged
  freeze : ∀ s, (f s).ret.freeze = s.ret.freeze
  activity : ∀ s, (f s).ret.activity = s.ret.activity
  setLink : ∀ s x, (f s).setLink x = f (s.setLink x)
  setTable : ∀ s x, (f s).setTable x = f (s.setTable x)
  setBond : ∀ s x, (f s).setBond x = f (s.setBond x)
  setBondState : ∀ s b n, Machine.setBondState b n (f s) = f (Machine.setBondState b n s)
  setGrade : ∀ s g, (f s).setRet { (f s).ret with grade := g } = f (s.setRet { s.ret with grade := g })

theorem bystander_setFe (x : FrontEnd) : Bystander (fun s => s.setFe x) := by constructor <;> intros <;> rfl

theorem bystander_setRest (x : RestDetector) : Bystander (fun s => s.setRest x) := by constructor <;> intros <;> rfl

theorem bystander_setPulse (x : PulseEngine) : Bystander (fun s => s.setPulse x) := by constructor <;> intros <;> rfl

theorem bystander_setFp (x : FrameProcessor) : Bystander (fun s => s.setFp x) := by constructor <;> intros <;> rfl

theorem bystander_lastPulse (x : Option Nat) : Bystander (fun s => s.setRet { s.ret with lastPulse := x }) := by
  constructor <;> intros <;> rfl

namespace Bystander

variable {f : State → State} (h : Bystander f) (s : State)
include h

theorem offer (fr : Frame) : Machine.offer fr (f s) = f (Machine.offer fr s) := by
  rw [Machine.offer, Machine.offer, h.link, h.setLink]

theorem withdrawPropose : Machine.withdrawPropose (f s) = f (Machine.withdrawPropose s) := by
  simp only [Machine.withdrawPropose, h.bondState, h.engaged, h.bond, h.link, h.setLink]
  split
  · split <;> rfl
  · rfl

theorem unpinEngaged : Machine.unpinEngaged (f s) = f (Machine.unpinEngaged s) := by
  rw [Machine.unpinEngaged, Machine.unpinEngaged, h.prof, h.seconds, h.table, h.setTable]

theorem clearBond : Machine.clearBond (f s) = f (Machine.clearBond s) := by
  rw [Machine.clearBond, Machine.clearBond, h.bond, h.setBond]

theorem disengage (next : BondState) : Machine.disengage next (f s) = f (Machine.disengage next s) := by
  rw [Machine.disengage, Machine.disengage, h.withdrawPropose, h.clearBond, h.unpinEngaged, h.setBondState]

theorem disengageMarked (n : Nat) (r : DeclineReason) :
    Machine.disengageMarked n r (f s) = f (Machine.disengageMarked n r s) := by
  simp only [Machine.disengageMarked, h.withdrawPropose, h.clearBond, h.prof, h.seconds, h.table, h.setTable, h.setBondState]

theorem toPeer (n : Nat) (kind : Byte) (payload : List Byte) :
    Machine.toPeer (f s) n kind payload = Machine.toPeer s n kind payload := by
  rw [Machine.toPeer, Machine.toPeer, ownByte, ownByte, h.comm]

theorem releasePartner (r : ReleaseReason) (next : BondState) :
    Machine.releasePartner r next (f s) = f (Machine.releasePartner r next s) := by
  simp only [Machine.releasePartner, h.engaged, releaseFrame, h.toPeer, h.offer, h.disengage]
  split <;> rfl

theorem freeOrRejected : Machine.freeOrRejected (f s) = Machine.freeOrRejected s := by
  rw [Machine.freeOrRejected, Machine.freeOrRejected, h.grade]

theorem engineReady : Machine.engineReady (f s) = Machine.engineReady s := by
  rw [Machine.engineReady, Machine.engineReady, h.grade, h.link, h.activity]

theorem readinessTest : Machine.readinessTest (f s) = f (Machine.readinessTest s) := by
  simp only [Machine.readinessTest, h.engineReady, h.bondState, h.grade, h.setBondState]
  rw [apply_ite f]
  congr 1
  split <;> rfl

theorem bondEpochRise (before : Option GradeClass) :
    Machine.bondEpochRise before (f s) = f (Machine.bondEpochRise before s) := by
  simp only [Machine.bondEpochRise, h.bondState, h.grade, h.freeze, h.bond, h.readinessTest, h.disengage, h.releasePartner,
    h.freeOrRejected]
  cases s.ret.bondState with
  | unready => rfl
  | bondedSilent => exact (apply_ite f _ _ _).symm
  | free => simp only [apply_ite f]
  | rejected => simp only [apply_ite f]
  | proposing => simp only [apply_ite f]
  | held => simp only [apply_ite f]
  | bonded => simp only [apply_ite f]

theorem tellEpochRise (before : Option GradeClass) :
    Machine.tellEpochRise before (f s) = f (Machine.tellEpochRise before s) := by
  rw [Machine.tellEpochRise, Machine.tellEpochRise, h.prof, h.grade, h.table, h.setTable, h.bondEpochRise]

theorem gradeEvent (g : GradeRecord) : Machine.gradeEvent g (f s) = f (Machine.gradeEvent g s) := by
  simp only [Machine.gradeEvent, h.prof, h.grade, h.setGrade, h.tellEpochRise, apply_ite f]

end Bystander

/-! ## The grade unit's event field by field -/

variable {s : State}

/-- What an event of the grade unit can change: the record, the bond state with its engaged number, the table, the bond engine, and
the queue with the transmitter that goes with it. Where a bond stands after it, the bond engine is as it was. -/
theorem gradeEvent_frame (g : GradeRecord) (s : State) : ∃ e b n table bond q t,
    (bondStands b = true → bond = s.bond)
      ∧ gradeEvent g s = { requeued q t s with
        dom := { s.dom with ret := { s.ret with
          grade := { g with gradeClass := deriveClass (prof s) g, epoch := e }, bondState := b, engaged := n } }
        table := table
        bond := bond } := by
  cases hd : publishedDiffer s.grade { g with gradeClass := deriveClass (prof s) g } with
  | false => exact ⟨g.epoch, s.ret.bondState, s.ret.engaged, s.table, s.bond, s.link.queue, s.link.transmitter,
      fun _ => rfl, gradeEvent_unchanged hd⟩
  | true =>
    rw [gradeEvent_changed hd]
    rcases bondEpochRise_cases s.grade.gradeClass (toldState g s) with h | ⟨b, -, h⟩ | ⟨q, t, b, hb, h⟩ <;> rw [h]
    · exact ⟨raisedEpoch s.grade.epoch, s.ret.bondState, s.ret.engaged, _, s.bond, s.link.queue, s.link.transmitter,
        fun _ => rfl, rfl⟩
    · exact ⟨raisedEpoch s.grade.epoch, b, none, _, s.bond, s.link.queue, s.link.transmitter, fun _ => rfl, rfl⟩
    · exact ⟨raisedEpoch s.grade.epoch, b, none, _, _, q, t, fun hs => absurd (hs.symm.trans hb) (by decide), rfl⟩

end Sys2Proof.Machine
end

section
/-! SUPPORT. The measurement commands: the charge divider (R1 to R5), a sample record at its three receivers (R12, R20 to R28, R42 to
R48, R157), and the second (R189). Settles O22 to O27. -/

namespace Sys2Proof.Machine

variable {s : State}

/-! ## The charge divider -/

theorem counterAfter_none (c : Int) : counterAfter c 0 = c := by
  rw [counterAfter, Int.add_zero, ite_self]

theorem counterAfter_up {c : Int} (hlo : Config.chargeMin ≤ c) (hhi : c ≤ Config.chargeMax) :
    counterAfter c 1 = min (c + 1) 8388607 := by
  simp only [Config.chargeMin, Config.chargeMax] at hlo hhi
  unfold counterAfter Config.chargeMax Config.chargeMin
  split <;> omega

theorem counterAfter_down {c : Int} (hlo : Config.chargeMin ≤ c) (hhi : c ≤ Config.chargeMax) :
    counterAfter c (-1) = max (c - 1) (-8388608) := by
  simp only [Config.chargeMin, Config.chargeMax] at hlo hhi
  unfold counterAfter Config.chargeMax Config.chargeMin
  split <;> omega

theorem quantumBreaks_none (c : Int) : quantumBreaks c 0 = false := rfl

theorem quantumBreaks_up (c : Int) : quantumBreaks c 1 = decide (8388607 ≤ c + 1) := by
  simp [quantumBreaks, Config.chargeMax]

theorem quantumBreaks_down (c : Int) : quantumBreaks c (-1) = decide (c - 1 ≤ -8388608) := by
  simp [quantumBreaks, Config.chargeMin, Int.sub_eq_add_neg]

theorem quantumOf_inside {n : Nat} {r : Int} (h : r ≠ n) (h' : r ≠ -n) : quantumOf n r = 0 := by
  rw [quantumOf, if_neg h, if_neg h']

theorem quantumOf_top (n : Nat) : quantumOf n n = 1 := if_pos rfl

theorem quantumOf_bottom {n : Nat} (hn : 0 < n) : quantumOf n (-n) = -1 := by
  rw [quantumOf, if_neg (by omega), if_pos rfl]

/-- A pulse at the divider and the counter, by the quantum it delivers. -/
theorem dividePulse_of {d : Direction} {q : Int} (hq : quantumOf (prof s).calibration (residueAfter d s.ret.residue) = q) :
    dividePulse d s = (if quantumBreaks s.ret.charge q = true then continuityBreak else id)
      (s.setRet { s.ret with
        residue := if q = 0 then residueAfter d s.ret.residue else 0
        charge := counterAfter s.ret.charge q }) := by
  subst hq
  unfold dividePulse
  dsimp only
  split <;> rfl

/-- The residue after a pulse stays within its open range (R2). -/
theorem dividePulse_residue (d : Direction) (hn : 0 < (prof s).calibration) (hlo : -((prof s).calibration : Int) < s.ret.residue)
    (hhi : s.ret.residue < (prof s).calibration) :
    -((prof s).calibration : Int) < (dividePulse d s).ret.residue ∧ (dividePulse d s).ret.residue < (prof s).calibration := by
  have hres : (dividePulse d s).ret.residue =
      if quantumOf (prof s).calibration (residueAfter d s.ret.residue) = 0 then residueAfter d s.ret.residue else 0 := by
    rw [dividePulse_of rfl]
    split <;> rfl
  rw [hres]
  have hmoved : -((prof s).calibration : Int) ≤ residueAfter d s.ret.residue
      ∧ residueAfter d s.ret.residue ≤ (prof s).calibration := by
    cases d <;> simp only [residueAfter] <;> omega
  by_cases htop : residueAfter d s.ret.residue = (prof s).calibration
  · rw [htop, quantumOf_top, if_neg one_ne_zero]
    omega
  · by_cases hbottom : residueAfter d s.ret.residue = -(prof s).calibration
    · rw [hbottom, quantumOf_bottom hn, if_neg (by decide)]
      omega
    · rw [if_pos (quantumOf_inside htop hbottom)]
      omega

/-- Settles O22: the quantum is none, one up or one down, and each reaches its limit or not. -/
theorem chargePulseCounts : Obligations.ChargePulseCounts := by
  unfold Obligations.ChargePulseCounts
  intro d s
  refine ⟨fun hr => whenever_not hr, ?_⟩
  intro hr hcal hlo hhi n r fe broken after
  have hexec : exec (.chargePulse d) s = .next (settle (dividePulse d (s.setFe (countPulse d s.fe)))) := whenever_of hr
  have hfe : countPulse d s.fe = fe := by cases d <;> rfl
  have hr' : residueAfter d s.ret.residue = r := by cases d <;> rfl
  have hdivide : ∀ {q residue : Int} {charge : Int} {b : Bool}, quantumOf (prof s).calibration r = q →
      (if q = 0 then r else 0) = residue → counterAfter s.ret.charge q = charge → quantumBreaks s.ret.charge q = b →
      dividePulse d (s.setFe (countPulse d s.fe)) = (if b = true then broken else id) (after residue charge) := by
    intro q residue charge b hq hresidue hcharge hbreak
    refine (dividePulse_of (s := s.setFe (countPulse d s.fe)) ((congrArg _ hr').trans hq)).trans ?_
    rw [hfe]
    change (if quantumBreaks s.ret.charge q = true then continuityBreak else id) (after
      (if q = 0 then residueAfter d s.ret.residue else 0) (counterAfter s.ret.charge q)) = _
    rw [hr', hbreak, hresidue, hcharge]
    cases b <;> rfl
  have hn : 0 < (prof s).calibration := by omega
  rw [hexec]
  refine ⟨fun h h' => ?_, fun h hc => ?_, fun h hc => ?_, fun h hc => ?_, fun h hc => ?_, fun hlo' hhi' t ht => ?_⟩
  · rw [hdivide (quantumOf_inside h h') (if_pos rfl) (counterAfter_none _) (quantumBreaks_none _)]
    rfl
  · have hcount : counterAfter s.ret.charge 1 = s.ret.charge + 1 := (counterAfter_up hlo hhi).trans (by omega)
    rw [hdivide ((congrArg _ h).trans (quantumOf_top _)) (if_neg one_ne_zero) hcount
      ((quantumBreaks_up _).trans (decide_eq_false (by omega)))]
    rfl
  · have hcount : counterAfter s.ret.charge 1 = 8388607 := (counterAfter_up hlo hhi).trans (by omega)
    rw [hdivide ((congrArg _ h).trans (quantumOf_top _)) (if_neg one_ne_zero) hcount
      ((quantumBreaks_up _).trans (decide_eq_true hc))]
    rfl
  · have hcount : counterAfter s.ret.charge (-1) = s.ret.charge - 1 := (counterAfter_down hlo hhi).trans (by omega)
    rw [hdivide ((congrArg _ h).trans (quantumOf_bottom hn)) (if_neg (by decide)) hcount
      ((quantumBreaks_down _).trans (decide_eq_false (by omega)))]
    rfl
  · have hcount : counterAfter s.ret.charge (-1) = -8388608 := (counterAfter_down hlo hhi).trans (by omega)
    rw [hdivide ((congrArg _ h).trans (quantumOf_bottom hn)) (if_neg (by decide)) hcount
      ((quantumBreaks_down _).trans (decide_eq_true hc))]
    rfl
  · obtain rfl := (Host.Outcome.next.inj ht).symm
    rw [settle_ret]
    exact dividePulse_residue d hn hlo' hhi'

/-! ## A sample record at the rest detector and at the bond engine -/

/-- The list and the pair last offered after a record: gone at a continuity break (R36). -/
def listAfterRecord (rec : SampleRecord) (s : State) : State :=
  if rec.faulted = true then s.setRet { s.ret with points := [], offered := none } else s

theorem setRest_self (s : State) : s.setRest s.rest = s := rfl

/-- A record at the rest detector is `restAfterRecord`, with the list emptied by a faulted one. -/
theorem restTakesRecord_eq (rec : SampleRecord) (s : State) :
    restTakesRecord rec s = (listAfterRecord rec s).setRest (restAfterRecord rec s) := by
  unfold restTakesRecord restAfterRecord listAfterRecord
  by_cases hf : rec.faulted = true
  · simp only [hf, if_true]
    rfl
  · by_cases ha : s.ret.activity = .dormant
    · simp only [hf, ha, if_true]
      rfl
    · simp only [hf, ha, if_false]
      cases hst : s.rest.state <;> by_cases hq : rec.current.natAbs ≤ (prof s).restThreshold <;>
        simp [hq, apply_ite s.setRest, setRest_self]

/-- PAIR-EN is tested and, once asserted, stays (R157). -/
theorem pairTest_eq (own : Option Nat) (s : State) :
    pairTest own s = s.setBond { s.bond with
      pairEn := s.bond.pairEn || (bondStands s.ret.bondState && pairTestPasses s own) } := by
  unfold pairTest
  cases bondStands s.ret.bondState <;> cases pairTestPasses s own <;> simp <;> rfl

/-- Where no bond stands the test leaves the bond engine as it is. -/
theorem setPairEn_of_not_standing {e : BondEngine} {stands passes : Bool} (h : stands = false) :
    { e with pairEn := e.pairEn || (stands && passes) } = e := by
  rw [h, Bool.false_and, Bool.or_false]

/-- The partner report and the record's voltage pass the test (R157). -/
theorem pairTestPasses_iff {s : State} {partner heard own : Nat} (h : s.bond.report = some ⟨some partner, heard⟩) :
    pairTestPasses s (some own) = true ↔
      s.seconds ≤ heard + 2 * (prof s).announceInterval ∧ absDiff own partner ≤ (prof s).joinLimit := by
  simp only [pairTestPasses, h, Bool.and_eq_true, decide_eq_true_eq]

theorem pairTestPasses_without {s : State} (own : Option Nat) (h : s.bond.report.bind (fun r => r.voltage) = none) :
    pairTestPasses s own = false := by
  rcases hr : s.bond.report with _ | ⟨_ | v, t⟩
  · simp only [pairTestPasses, hr]
  · simp only [pairTestPasses, hr]
  · rw [hr] at h
    cases h

/-! ## A sample record at the pulse engine -/

/-- The rest detector once the pulse is over: the second rest timer of POST-PULSE SETTLING (R28). -/
def restAfterPulse (s : State) : RestDetector :=
  if s.rest.state = .postPulseSettling then { s.rest with restTimer := some (s.seconds + (prof s).restTime * 60) } else s.rest

theorem reportPulseOver_eq (s : State) : reportPulseOver s = s.setRest (restAfterPulse s) := by
  unfold reportPulseOver restAfterPulse
  split <;> rfl

/-- The pulse engine in PULSING after a record (R42, R45). -/
def pulsingAfter (rec : SampleRecord) (s : State) : PulseEngine :=
  if s.pulse.windows + 1 = pulseWindows (prof s) + 1 then
    { s.pulse with
      windows := s.pulse.windows + 1
      spoiled := s.pulse.spoiled || rec.faulted
      state := .returnCheck
      post := s.fe.lastTemperature.map (fun t => ⟨rec.voltage, rec.current, t⟩) }
  else { s.pulse with windows := s.pulse.windows + 1, spoiled := s.pulse.spoiled || rec.faulted }

theorem pulseTakesRecord_idle (rec : SampleRecord) (h : s.pulse.state = .idle) : pulseTakesRecord rec s = s := by
  simp only [pulseTakesRecord, h]

theorem pulseTakesRecord_pulsing (rec : SampleRecord) (h : s.pulse.state = .pulsing) :
    pulseTakesRecord rec s = s.setPulse (pulsingAfter rec s) := by
  simp only [pulseTakesRecord, h, pulsingAfter]
  split <;> rfl

/-- The judgement of the return record (R44). -/
theorem pulseTakesRecord_returnCheck (rec : SampleRecord) {pre : PreSample} {post : EndSample} (h : s.pulse.state = .returnCheck)
    (hpre : s.pulse.pre = some pre) (hpost : s.pulse.post = some post) :
    pulseTakesRecord rec s =
      if pulseValid (prof s) s.pulse.spoiled pre post rec = true then
        reportPulseOver (handPulseResult pre post rec.seconds (endPulse s))
      else reportPulseOver (endPulse s) := by
  simp only [pulseTakesRecord, h, hpre, hpost]

/-- What a record can change at the pulse engine: outside RETURN CHECK the engine alone; there the engine, the rest detector, and
what an event of the grade unit can change. -/
theorem pulseTakesRecord_frame (rec : SampleRecord) (s : State) : ∃ pulse rest last grade b n table bond q t,
    (bondStands b = true → bond = s.bond)
      ∧ (s.pulse.state ≠ .returnCheck → b = s.ret.bondState ∧ n = s.ret.engaged ∧ table = s.table ∧ bond = s.bond)
      ∧ pulseTakesRecord rec s = { requeued q t s with
        dom := { s.dom with ret := { s.ret with lastPulse := last, grade := grade, bondState := b, engaged := n } }
        pulse := pulse
        rest := rest
        table := table
        bond := bond } := by
  cases hst : s.pulse.state with
  | idle =>
    exact ⟨s.pulse, s.rest, s.ret.lastPulse, s.grade, s.ret.bondState, s.ret.engaged, s.table, s.bond, s.link.queue,
      s.link.transmitter, fun _ => rfl, fun _ => ⟨rfl, rfl, rfl, rfl⟩, pulseTakesRecord_idle rec hst⟩
  | pulsing =>
    exact ⟨_, s.rest, s.ret.lastPulse, s.grade, s.ret.bondState, s.ret.engaged, s.table, s.bond, s.link.queue,
      s.link.transmitter, fun _ => rfl, fun _ => ⟨rfl, rfl, rfl, rfl⟩, pulseTakesRecord_pulsing rec hst⟩
  | returnCheck =>
    have hover : ∃ rest, pulseTakesRecord rec s = (endPulse s).setRest rest
        ∨ ∃ g last, pulseTakesRecord rec s =
            (gradeEvent g ((endPulse s).setRet { s.ret with lastPulse := last })).setRest rest := by
      rcases hpre : s.pulse.pre with _ | pre
      · exact ⟨restAfterPulse (endPulse s), .inl (by simp only [pulseTakesRecord, hst, hpre, reportPulseOver_eq])⟩
      rcases hpost : s.pulse.post with _ | post
      · exact ⟨restAfterPulse (endPulse s), .inl (by simp only [pulseTakesRecord, hst, hpre, hpost, reportPulseOver_eq])⟩
      rw [pulseTakesRecord_returnCheck rec hst hpre hpost]
      split
      · exact ⟨_, .inr ⟨_, _, reportPulseOver_eq _⟩⟩
      · exact ⟨_, .inl (reportPulseOver_eq _)⟩
    obtain ⟨rest, h | ⟨g, last, h⟩⟩ := hover
    · exact ⟨_, rest, s.ret.lastPulse, s.grade, s.ret.bondState, s.ret.engaged, s.table, s.bond, s.link.queue,
        s.link.transmitter, fun _ => rfl, fun hne => absurd rfl hne, h⟩
    · obtain ⟨e, b, n, table, bond, q, t, hbond, hg⟩ := gradeEvent_frame g ((endPulse s).setRet { s.ret with lastPulse := last })
      exact ⟨_, rest, last, _, b, n, table, bond, q, t, hbond, fun hne => absurd rfl hne, h.trans (congrArg (fun u => u.setRest rest) hg)⟩

/-! ## The window close -/

/-- The state at the receivers of a record before the pulse engine takes it. -/
def restedState (v : Int) (s : State) : State := restTakesRecord (closeRecord v s) (closeWindow (closeRecord v s) s)

theorem exec_windowClose (v : Int) (hr : inRun s = true) (hw : s.fe.window.isSome = true) :
    exec (.windowClose v) s = .next (settle (pairTest (some (closeRecord v s).voltage)
      (pulseTakesRecord (closeRecord v s) (restedState v s)))) :=
  whenever_of (by rw [hr, hw]; rfl)

/-- The record's part at the front end and at the rest detector, in the terms of the statements. -/
theorem restedState_eq (v : Int) (s : State) :
    restedState v s = (listAfterRecord (closeRecord v s) (closeWindow (closeRecord v s) s)).setRest
      (restAfterRecord (closeRecord v s) s) :=
  restTakesRecord_eq _ _

/-- A record leaves every field alone but the front end's, the rest detector's and the list's. -/
theorem restedState_frame (v : Int) (s : State) : ∃ points offered,
    points = (if (closeRecord v s).faulted = true then [] else s.ret.points)
      ∧ offered = (if (closeRecord v s).faulted = true then none else s.ret.offered)
      ∧ restedState v s = { closeWindow (closeRecord v s) s with
        dom := { s.dom with ret := { s.ret with points := points, offered := offered } }
        rest := restAfterRecord (closeRecord v s) s } := by
  refine ⟨_, _, rfl, rfl, ?_⟩
  rw [restedState_eq, listAfterRecord]
  split <;> rfl

/-- Settles O23: what follows the front end in the event leaves the front end alone, and touches the bond engine only by a result of
the pulse and by the PAIR-EN test. -/
theorem windowCloseForms : Obligations.WindowCloseForms := by
  unfold Obligations.WindowCloseForms
  intro v s hr hw
  obtain ⟨points, offered, -, -, hrested⟩ := restedState_frame v s
  obtain ⟨pulse, rest, last, grade, b, n, table, bond, q, t, hstands, hidle, hpulse⟩ :=
    pulseTakesRecord_frame (closeRecord v s) (restedState v s)
  rw [hrested] at hpulse hidle hstands
  refine ⟨_, closeRecord v s, exec_windowClose v hr hw, rfl, rfl, rfl, rfl, rfl, rfl, decide_eq_true_iff, ?_⟩
  rw [hrested, hpulse, pairTest_eq]
  simp only [settle_fe, settle_ret, settle_fp, settle_supply, settle_bond, settle_table, settle_fifo]
  refine ⟨rfl, rfl, rfl, rfl, rfl, rfl, rfl, rfl, rfl, ?_, rfl, fun hne => ?_, fun hb => ?_⟩
  · exact settle_commState _
  · obtain ⟨rfl, rfl, rfl, rfl⟩ := hidle hne
    exact ⟨rfl, rfl, rfl, rfl, fun hno => by
      change (s.bond.pairEn || (bondStands s.ret.bondState && _)) = _
      rw [hno, Bool.false_and, Bool.or_false]⟩
  · change bondStands b = true at hb
    obtain rfl := hstands hb
    refine ⟨fun report hreport partner hpartner => ?_, fun hnone => ?_⟩
    · obtain ⟨partner', heard⟩ := report
      obtain rfl : partner' = some partner := hpartner
      change (s.bond.pairEn || (bondStands b && pairTestPasses _ _)) = true ↔ _
      rw [hb, Bool.true_and, Bool.or_eq_true]
      exact or_congr_right (pairTestPasses_iff hreport)
    · change (s.bond.pairEn || (bondStands b && pairTestPasses _ _)) = _
      refine (congrArg (fun x => s.bond.pairEn || (bondStands b && x)) (pairTestPasses_without _ hnone)).trans ?_
      rw [Bool.and_false, Bool.or_false]

/-- The rest detector takes no notice of a quiet record outside MOVING. -/
theorem restAfterRecord_quiet {rec : SampleRecord} (hf : rec.faulted = false) (hst : s.rest.state ≠ .moving)
    (hq : rec.current.natAbs ≤ (prof s).restThreshold) : restAfterRecord rec s = s.rest := by
  unfold restAfterRecord
  rw [if_neg (by simp [hf]), if_neg hst, if_pos (Or.inl hq), ite_self]

/-- With no pulse in flight a window close is the front end's, the rest detector's and the PAIR-EN test's. -/
theorem exec_windowClose_idle (v : Int) (hr : inRun s = true) (hw : s.fe.window.isSome = true) (hp : s.pulse.state = .idle) :
    exec (.windowClose v) s = .next (settle ((listAfterRecord (closeRecord v s) { closeWindow (closeRecord v s) s with
        bond := { s.bond with pairEn := s.bond.pairEn
          || (bondStands s.ret.bondState && pairTestPasses s (some (closeRecord v s).voltage)) } }).setRest
      (restAfterRecord (closeRecord v s) s))) := by
  rw [exec_windowClose v hr hw, restedState_eq, pulseTakesRecord_idle, pairTest_eq]
  · unfold listAfterRecord
    cases (closeRecord v s).faulted <;> rfl
  · unfold listAfterRecord
    cases (closeRecord v s).faulted <;> exact hp

/-- Settles O24: what `restAfterRecord` is in each situation of the rest detector. -/
theorem windowCloseAtRest : Obligations.WindowCloseAtRest := by
  unfold Obligations.WindowCloseAtRest
  intro v s hr hw hp record near u quiet moved
  have hnear : pairTestPasses s (some record.voltage) = near := by
    unfold pairTestPasses
    rcases hrep : s.bond.report with _ | ⟨_ | pv, t⟩ <;> simp [near, hrep]
  have hexec := exec_windowClose_idle v hr hw hp
  rw [hnear] at hexec
  have hclean : record.faulted = false → ∀ rest, restAfterRecord record s = rest →
      exec (.windowClose v) s = .next (settle { u with rest := rest }) := by
    rintro hf rest rfl
    rw [hexec, listAfterRecord, if_neg (by rw [hf]; exact Bool.false_ne_true)]
    rfl
  have hrest : record.faulted = false → s.ret.activity = .active → restAfterRecord record s =
      if s.rest.state = .moving then
        (if quiet then { s.rest with state := .settling, restTimer := some (s.seconds + (prof s).restTime * 60) } else s.rest)
      else if quiet ∨ (s.rest.state = .postPulseSettling ∧ s.rest.restTimer = none) then s.rest
      else { s.rest with state := .moving, restTimer := none, longTimer := none, reference := none } := fun hf ha => by
    unfold restAfterRecord
    rw [if_neg (by simp [hf]), if_neg (by simp [ha])]
    rfl
  refine ⟨fun hf => ?_, fun hf ha => hclean hf _ ?_, fun hf ha hst hq => hclean hf _ ?_, fun hf ha hst hq => hclean hf _ ?_,
    fun hf ha hst hq => hclean hf _ (restAfterRecord_quiet hf hst hq), fun hf ha hst hq => hclean hf _ ?_⟩
  · rw [hexec, listAfterRecord, if_pos hf, restAfterRecord, if_pos hf]
    rfl
  · rw [restAfterRecord, if_neg (by simp [hf]), if_pos ha]
    rfl
  · rw [hrest hf ha, if_pos hst, if_pos hq]
  · rw [hrest hf ha, if_pos hst, if_neg hq]
    rfl
  · have hmoving : s.rest.state ≠ .moving := by rcases hst with h | h | h | h <;> simp [h]
    have hinside : ¬ (quiet ∨ (s.rest.state = .postPulseSettling ∧ s.rest.restTimer = none)) := by
      rintro (h | ⟨h, ht⟩)
      · exact hq h
      · rcases hst with h' | h' | h' | ⟨-, h'⟩ <;> simp_all
    rw [hrest hf ha, if_neg hmoving, if_neg hinside]

/-- Settles O25: the pulse engine counts, and the rest detector takes the record as at any other time. -/
theorem windowClosePulsing : Obligations.WindowClosePulsing := by
  unfold Obligations.WindowClosePulsing
  intro v s hr hw hp record n
  obtain ⟨points, offered, hpoints, hoffered, hrested⟩ := restedState_frame v s
  have hengine : (restedState v s).pulse = s.pulse := by rw [hrested]; rfl
  have hpulse : pulsingAfter record (restedState v s) = pulsingAfter record s := by rw [hrested]; rfl
  have hfields : (pulsingAfter record s).windows = s.pulse.windows + 1
      ∧ (pulsingAfter record s).spoiled = (s.pulse.spoiled || record.faulted)
      ∧ (pulsingAfter record s).pre = s.pulse.pre := by
    unfold pulsingAfter
    split <;> exact ⟨rfl, rfl, rfl⟩
  obtain ⟨hwindows, hspoiled, hpre⟩ := hfields
  refine ⟨_, exec_windowClose v hr hw, ?_⟩
  rw [pulseTakesRecord_pulsing (s := restedState v s) _ (by rw [hengine, hp]), pairTest_eq, hpulse, hrested]
  simp only [settle_grade, settle_ret, settle_pulse, settle_rest]
  refine ⟨rfl, rfl, hwindows, hspoiled, hpre, rfl, hpoints, hoffered, fun hne => ?_, fun he => ?_⟩
  · have hstays : pulsingAfter record s =
        { s.pulse with windows := s.pulse.windows + 1, spoiled := s.pulse.spoiled || record.faulted } := if_neg hne
    exact ⟨(congrArg PulseEngine.state hstays).trans hp, (congrArg PulseEngine.post hstays).trans rfl⟩
  · have hends : pulsingAfter record s = { s.pulse with
        windows := s.pulse.windows + 1
        spoiled := s.pulse.spoiled || record.faulted
        state := .returnCheck
        post := s.fe.lastTemperature.map (fun t => ⟨record.voltage, record.current, t⟩) } := if_pos he
    exact ⟨(congrArg PulseEngine.state hends).trans rfl, (congrArg PulseEngine.post hends).trans rfl⟩

/-- The four tests of R44 on a return record. -/
theorem pulseValid_iff (p : Profile) (spoiled : Bool) (pre : PreSample) (post : EndSample) (rec : SampleRecord) :
    pulseValid p spoiled pre post rec = true ↔ spoiled = false ∧ rec.faulted = false ∧ post.v1 < pre.v0
      ∧ (p.minimumStep : Int) ≤ pre.i0 - post.i1 ∧ (rec.current - pre.i0).natAbs ≤ p.restThreshold := by
  simp only [pulseValid, Bool.and_eq_true, Bool.not_eq_true', decide_eq_true_eq, and_assoc]

/-- What a return close does to the blocks that take no part in the grade unit's event. -/
def pulseEnded (v : Int) (last : Option Nat) (s u : State) : State :=
  (((u.setFe (closeWindow (closeRecord v s) s).fe).setRest (restAfterRecord (closeRecord v s) s)).setPulse
    { s.pulse with state := .idle, pre := none, post := none }).setRet { u.ret with lastPulse := last }

theorem pulseEnded_bystander (v : Int) (last : Option Nat) (s : State) : Bystander (pulseEnded v last s) := by
  constructor <;> intros <;> rfl

/-- A result that is valid is an event of the grade unit beside which the other blocks take the close (R44, R46 to R48). -/
theorem pulseTakesRecord_valid (v : Int) {pre : PreSample} {post : EndSample} (hp : s.pulse.state = .returnCheck)
    (hpre : s.pulse.pre = some pre) (hpost : s.pulse.post = some post)
    (hvalid : pulseValid (prof s) s.pulse.spoiled pre post (closeRecord v s) = true) :
    let r := resistanceOf (pre.v0 - post.v1) (pre.i0 - post.i1).toNat
    let r25c := normalised (prof s).alpha r post.temperature
    pulseTakesRecord (closeRecord v s) (restedState v s) = reportPulseOver (pulseEnded v (some s.seconds) s
      (gradeEvent { s.grade with
        resistance := some r, r25c := some r25c, pulseTemperature := some post.temperature
        ratio := some (ratioOf (prof s) r25c) } s)) := by
  intro r r25c
  have hclean : (closeRecord v s).faulted = false := ((pulseValid_iff _ _ _ _ _).1 hvalid).2.1
  have hrested : restedState v s = (closeWindow (closeRecord v s) s).setRest (restAfterRecord (closeRecord v s) s) := by
    rw [restedState_eq, listAfterRecord, if_neg (by simp [hclean])]
  have hvalid' : pulseValid (prof (restedState v s)) (restedState v s).pulse.spoiled pre post (closeRecord v s) = true := by
    rw [hrested]
    exact hvalid
  rw [pulseTakesRecord_returnCheck (s := restedState v s) _ (by rw [hrested]; exact hp) (by rw [hrested]; exact hpre)
    (by rw [hrested]; exact hpost), if_pos hvalid', ← (pulseEnded_bystander v (some s.seconds) s).gradeEvent, hrested]
  rfl

/-- A result that is not valid leaves the grade unit alone (R44). -/
theorem pulseTakesRecord_invalid (v : Int) {pre : PreSample} {post : EndSample} (hp : s.pulse.state = .returnCheck)
    (hpre : s.pulse.pre = some pre) (hpost : s.pulse.post = some post)
    (hvalid : pulseValid (prof s) s.pulse.spoiled pre post (closeRecord v s) = false) :
    pulseTakesRecord (closeRecord v s) (restedState v s) = reportPulseOver (endPulse (restedState v s)) := by
  obtain ⟨points, offered, -, -, hrested⟩ := restedState_frame v s
  rw [pulseTakesRecord_returnCheck (s := restedState v s) _ (by rw [hrested]; exact hp) (by rw [hrested]; exact hpre)
    (by rw [hrested]; exact hpost), if_neg]
  rw [hrested, Bool.not_eq_true]
  exact hvalid

/-- Settles O26: a valid result and any other, each beside the other blocks' part in the close. -/
theorem returnCheckJudges : Obligations.ReturnCheckJudges := by
  unfold Obligations.ReturnCheckJudges
  intro v s hr hw hp pre hpre post hpost record valid rest r r25c told
  obtain ⟨points, offered, hpoints, hoffered, hrested⟩ := restedState_frame v s
  have hiff : pulseValid (prof s) s.pulse.spoiled pre post record = true ↔ valid := pulseValid_iff _ _ _ _ _
  have hlater : record.faulted = false → s.rest.state = .postPulseSettling → s.rest.restTimer = none →
      s.ret.activity = .active → rest = s.rest := fun hf hst ht ha => by
    show restAfterRecord record s = s.rest
    unfold restAfterRecord
    rw [if_neg (by simp [hf]), if_neg (by simp [ha]), if_neg (by simp [hst]), if_pos (Or.inr ⟨hst, ht⟩)]
  have hsecond : record.faulted = false → s.rest.state = .postPulseSettling → s.rest.restTimer = none →
      s.ret.activity = .active →
      (if rest.state = .postPulseSettling then { rest with restTimer := some (s.seconds + (prof s).restTime * 60) } else rest)
        = { s.rest with restTimer := some (s.seconds + (prof s).restTime * 60) } := fun hf hst ht ha => by
    rw [hlater hf hst ht ha, if_pos hst]
  have hexec := exec_windowClose v hr hw
  by_cases hv : valid
  · have hjudged : pulseTakesRecord record (restedState v s) = reportPulseOver (pulseEnded v (some s.seconds) s told) :=
      pulseTakesRecord_valid v hp hpre hpost (hiff.2 hv)
    have hclean : record.faulted = false := hv.2.1
    have hgrade : ∃ e, told.ret.grade = { s.grade with
        resistance := some r, r25c := some r25c, pulseTemperature := some post.temperature
        ratio := some (ratioOf (prof s) r25c), gradeClass := told.grade.gradeClass, epoch := e }
        ∧ told.ret.points = s.ret.points ∧ told.ret.offered = s.ret.offered ∧ told.seconds = s.seconds
        ∧ prof told = prof s := by
      obtain ⟨e, b, n, table, bond, q, t, -, htold⟩ := gradeEvent_frame { s.grade with
        resistance := some r, r25c := some r25c, pulseTemperature := some post.temperature
        ratio := some (ratioOf (prof s) r25c) } s
      exact ⟨e, by rw [show told = _ from htold]; exact ⟨rfl, rfl, rfl, rfl, rfl⟩⟩
    rw [hjudged, reportPulseOver_eq, pairTest_eq] at hexec
    obtain ⟨e, hgrade, hp', ho', hsec, hprof⟩ := hgrade
    clear_value told
    have hrest : restAfterPulse (pulseEnded v (some s.seconds) s told) =
        if rest.state = .postPulseSettling then { rest with restTimer := some (s.seconds + (prof s).restTime * 60) }
        else rest := by
      rw [← hsec, ← hprof]
      rfl
    refine ⟨_, hexec, rfl, hrest, ?_, ?_, fun _ => ⟨rfl, rfl, rfl, rfl, fun hb => setPairEn_of_not_standing hb⟩,
      fun hn => absurd hv hn, fun _ => ?_, fun hn => absurd hv hn, fun hf hst ht ha => hrest.trans (hsecond hf hst ht ha)⟩
    · rw [if_neg (by simp [hclean])]
      exact hp'
    · rw [if_neg (by simp [hclean])]
      exact ho'
    · change told.ret.grade.resistance = _ ∧ told.ret.grade.r25c = _ ∧ told.ret.grade.pulseTemperature = _ ∧ _
        ∧ told.ret.grade.capacity = _ ∧ told.ret.grade.sd = _ ∧ told.ret.grade.estimateCount = _
      rw [hgrade]
      exact ⟨rfl, rfl, rfl, rfl, rfl, rfl, rfl⟩
  · have hjudged : pulseTakesRecord record (restedState v s) = reportPulseOver (endPulse (restedState v s)) :=
      pulseTakesRecord_invalid v hp hpre hpost (Bool.eq_false_iff.2 (mt hiff.1 hv))
    rw [hjudged, reportPulseOver_eq, pairTest_eq, hrested] at hexec
    refine ⟨_, hexec, rfl, rfl, hpoints, hoffered, fun h => absurd h hv, fun _ => ⟨rfl, rfl, rfl, rfl,
      fun hb => setPairEn_of_not_standing hb⟩, fun h => absurd h hv, fun _ => ⟨rfl, rfl⟩, hsecond⟩

/-! ## The second -/

/-- In RUN a second brings a temperature sample, in HOLD and RESET nothing else (R11, R189). -/
theorem exec_second_run (c : Int) (h : s.supply.state = .run) :
    exec (.secondsCounterIncrement c) s = .next (settle (temperatureSample c (advanceSeconds s))) := by
  unfold exec execSecondsCounterIncrement
  rw [show inRun s = true from decide_eq_true h, h]
  rfl

theorem exec_second_stopped (c : Int) (h : s.supply.state = .hold ∨ s.supply.state = .reset) :
    exec (.secondsCounterIncrement c) s = .next (settle (advanceSeconds s)) := by
  unfold exec execSecondsCounterIncrement
  rcases h with h | h <;>
  · rw [show inRun s = false from decide_eq_false (by simp [h]), h]
    rfl

/-- Settles O27: the counter by the supply state, and in RUN the temperature sample. -/
theorem secondAdvances : Obligations.SecondAdvances := by
  unfold Obligations.SecondAdvances
  intro c s dom sample
  refine ⟨fun h => whenever_not (by rw [h]; rfl), fun h => exec_second_stopped c h, fun h hno => ?_, fun h hst ha hin => ?_⟩
  · rw [exec_second_run c h]
    unfold temperatureSample
    dsimp only
    rw [if_neg]
    · rfl
    · rintro ⟨hst, ha, hin⟩
      rcases hno with hn | hn | hn
      · exact hn hst
      · exact absurd (hn.symm.trans ha) (by decide)
      · exact Bool.false_ne_true (hn.symm.trans hin)
  · rw [exec_second_run c h]
    unfold temperatureSample
    dsimp only
    rw [if_pos]
    · rfl
    · exact ⟨hst, ha, hin⟩

end Sys2Proof.Machine
end

section
/-! SUPPORT. The rest detector: the extreme pair examined (R34, R35, R58 to R63), the capture (R26, R27, R29), and the rest timers
(R24, R28, R30). Settles O28, O29 and O30. -/

namespace Sys2Proof.Machine

variable {s : State}

/-! ## The examination of the extreme pair -/

/-- The pair last offered is kept with the state (R34). -/
def recordPair (h l : RestPoint) (s : State) : State := s.setRet { s.ret with offered := some ⟨h.time, l.time⟩ }

theorem examinePair_of {h l : RestPoint} (hh : highPoint s.ret.points = some h) (hl : lowPoint s.ret.points = some l) :
    examinePair s = if 2 ≤ s.ret.points.length ∧ s.ret.offered ≠ some ⟨h.time, l.time⟩ then
      takePairOffer h l (recordPair h l s) else s := by
  simp only [examinePair, hh, hl]
  rfl

theorem takePairOffer_narrow {h l : RestPoint} (hn : h.soc - l.soc < (prof s).minimumWindow) : takePairOffer h l s = s :=
  if_pos hn

theorem takePairOffer_inconsistent {h l : RestPoint} (hn : (prof s).minimumWindow ≤ h.soc - l.soc) (hq : h.charge ≤ l.charge) :
    takePairOffer h l s = s.setRest { s.rest with removals := s.rest.removals ++ [min h.time l.time] } := by
  unfold takePairOffer
  dsimp only
  rw [if_neg (Nat.not_lt.2 hn), if_pos (by omega)]

theorem takePairOffer_estimate {h l : RestPoint} (hn : (prof s).minimumWindow ≤ h.soc - l.soc) (hq : l.charge < h.charge) :
    takePairOffer h l s =
      gradeEvent (withEstimate (prof s) (rawEstimate (h.charge - l.charge) (h.soc - l.soc)) (h.soc - l.soc) s.grade) s := by
  unfold takePairOffer
  dsimp only
  rw [if_neg (Nat.not_lt.2 hn), if_neg (by omega)]

/-- The three outcomes of a pair offer (R58, R59, R60). -/
theorem takePairOffer_cases (h l : RestPoint) (s : State) :
    takePairOffer h l s = s
      ∨ takePairOffer h l s = s.setRest { s.rest with removals := s.rest.removals ++ [min h.time l.time] }
      ∨ ∃ e d, takePairOffer h l s = gradeEvent (withEstimate (prof s) e d s.grade) s := by
  rcases Nat.lt_or_ge (h.soc - l.soc) (prof s).minimumWindow with hn | hn
  · exact .inl (takePairOffer_narrow hn)
  · rcases lt_or_ge l.charge h.charge with hq | hq
    · exact .inr (.inr ⟨_, _, takePairOffer_estimate hn hq⟩)
    · exact .inr (.inl (takePairOffer_inconsistent hn hq))

/-- An examination does nothing, or records the pair and offers it. -/
theorem examinePair_cases (s : State) : examinePair s = s ∨ ∃ h l, examinePair s = takePairOffer h l (recordPair h l s) := by
  cases hh : highPoint s.ret.points with
  | none => exact .inl (by simp only [examinePair, hh])
  | some h =>
    cases hl : lowPoint s.ret.points with
    | none => exact .inl (by simp only [examinePair, hh, hl])
    | some l =>
      rw [examinePair_of hh hl]
      split
      · exact .inr ⟨h, l, rfl⟩
      · exact .inl rfl

/-- The record after an examination: of the fields an estimate does not set, none has changed. -/
def EstimateOnly (g g' : GradeRecord) : Prop :=
  g' = { g with
    capacity := g'.capacity, estimateCount := g'.estimateCount, lastDeltaSoc := g'.lastDeltaSoc, soh := g'.soh
    gradeClass := g'.gradeClass, epoch := g'.epoch }

/-- What an examination can change: the pair last offered, the removal requests, and what an event of the grade unit can. -/
theorem examinePair_frame (s : State) : ∃ offered grade b n table bond q t removals, EstimateOnly s.grade grade
    ∧ examinePair s = { requeued q t s with
      dom := { s.dom with ret := { s.ret with offered := offered, grade := grade, bondState := b, engaged := n } }
      table := table
      bond := bond
      rest := { s.rest with removals := removals } } := by
  rcases examinePair_cases s with hid | ⟨h, l, hpair⟩
  · exact ⟨s.ret.offered, s.grade, s.ret.bondState, s.ret.engaged, s.table, s.bond, s.link.queue, s.link.transmitter,
      s.rest.removals, rfl, hid⟩
  · rw [hpair]
    rcases takePairOffer_cases h l (recordPair h l s) with hid | hreq | ⟨e, d, hest⟩
    · exact ⟨_, s.grade, s.ret.bondState, s.ret.engaged, s.table, s.bond, s.link.queue, s.link.transmitter, s.rest.removals,
        rfl, hid⟩
    · exact ⟨_, s.grade, s.ret.bondState, s.ret.engaged, s.table, s.bond, s.link.queue, s.link.transmitter, _, rfl, hreq⟩
    · obtain ⟨epoch, b, n, table, bond, q, t, -, hg⟩ :=
        gradeEvent_frame (withEstimate (prof (recordPair h l s)) e d (recordPair h l s).grade) (recordPair h l s)
      rw [hest, hg]
      refine ⟨_, _, b, n, table, bond, q, t, s.rest.removals, ?_, rfl⟩
      rfl

/-- Settles O29: the three outcomes of a pair offer, and the removal request. -/
theorem pairIsExamined : Obligations.PairIsExamined := by
  unfold Obligations.PairIsExamined
  intro folded
  refine ⟨?_, ?_⟩
  · intro s h hh l hl offered recorded
    have hof := examinePair_of hh hl
    refine ⟨fun hold => hof.trans (if_neg fun hnew => ?_), fun hlen hnew => ?_⟩
    · rcases hold with hshort | hsame
      · exact absurd hnew.1 (Nat.not_le.2 hshort)
      · exact hnew.2 hsame
    · have hoffer : examinePair s = takePairOffer h l recorded := hof.trans (if_pos ⟨hlen, hnew⟩)
      refine ⟨fun hn => hoffer.trans (takePairOffer_narrow hn),
        fun hn hq => hoffer.trans (takePairOffer_inconsistent hn hq), fun hn hq => ?_⟩
      have hest : examinePair s = gradeEvent { s.grade with
          capacity := some (folded s h l)
          estimateCount := min 255 (s.grade.estimateCount + 1)
          lastDeltaSoc := some (h.soc - l.soc)
          soh := some (min 1000 (roundHalfUp (folded s h l * 1000) (prof s).ratedCapacity)) } recorded :=
        hoffer.trans (takePairOffer_estimate hn hq)
      obtain ⟨e, b, n, table, bond, q, t, -, hg⟩ := gradeEvent_frame { s.grade with
        capacity := some (folded s h l)
        estimateCount := min 255 (s.grade.estimateCount + 1)
        lastDeltaSoc := some (h.soc - l.soc)
        soh := some (min 1000 (roundHalfUp (folded s h l * 1000) (prof s).ratedCapacity)) } recorded
      refine ⟨?_, ?_, ?_, ?_, ?_, hest⟩ <;> rw [hest, hg] <;> rfl
  · intro s hr k rest hrem u
    have hexec : exec .removalRequest s = .next (settle (removePoint k u)) := by
      refine (whenever_of (by rw [hr, hrem]; rfl)).trans ?_
      simp only [takeRemoval, hrem]
      rfl
    refine ⟨fun hnone => ?_, fun hsome => ?_⟩
    · rw [hexec]
      refine congrArg (fun x => Host.Outcome.next (settle x)) (if_neg ?_)
      show ¬ s.ret.points.any (fun p => p.time == k) = true
      simpa using hnone
    · rw [hexec]
      refine congrArg (fun x => Host.Outcome.next (settle x)) (if_pos ?_)
      show s.ret.points.any (fun p => p.time == k) = true
      simpa using hsome

/-! ## The capture -/

/-- The rest detector with its timers stopped and no reference. -/
def restStopped (s : State) : State :=
  s.setRest { s.rest with restTimer := none, longTimer := none, reference := none }

theorem restStopped_bystander : Bystander restStopped := by constructor <;> intros <;> rfl

/-- The timers and the reference take no part in an examination. -/
theorem examinePair_restStopped (s : State) : examinePair (restStopped s) = restStopped (examinePair s) := by
  have hoffer : ∀ h l u, takePairOffer h l (restStopped u) = restStopped (takePairOffer h l u) := fun h l u => by
    rcases Nat.lt_or_ge (h.soc - l.soc) (prof u).minimumWindow with hn | hn
    · rw [takePairOffer_narrow hn, takePairOffer_narrow (s := restStopped u) hn]
    · rcases lt_or_ge l.charge h.charge with hq | hq
      · rw [takePairOffer_estimate hn hq, takePairOffer_estimate (s := restStopped u) hn hq, restStopped_bystander.gradeEvent]
        rfl
      · rw [takePairOffer_inconsistent hn hq, takePairOffer_inconsistent (s := restStopped u) hn hq]
        rfl
  unfold examinePair
  simp only [show (restStopped s).ret = s.ret from rfl]
  split
  · split
    next h l _ _ _ => exact hoffer h l (recordPair h l s)
    next => rfl
  · rfl

/-- The point of a capture in the list (R26). -/
def withPoint (v : VoltageSample) (k : Int) (s : State) : State :=
  s.setRet { s.ret with points := addPoint (formPoint s v k) s.ret.points }

theorem capture_eq {v : VoltageSample} {k : Int} (hv : s.fe.lastVoltage = some v) (hk : s.fe.lastTemperature = some k) :
    capture s = offerPulse k (restStopped (examinePair (withPoint v k s))) := by
  rw [← examinePair_restStopped]
  simp only [capture, hv, hk]
  rfl

theorem enterRested_eq {v : VoltageSample} {k : Int} (hv : s.fe.lastVoltage = some v) (hk : s.fe.lastTemperature = some k) :
    enterRested s = s.setRest { s.rest with
      state := .rested
      restTimer := none
      longTimer := some (s.seconds + (prof s).longRestTime * 3600)
      reference := some ⟨v.mv, socLookup (prof s).ocv v.cell, s.seconds, k⟩ } := by
  simp only [enterRested, hv, hk, socOf]

/-- A pulse begins at an offer (R39, R40). -/
theorem offerPulse_starts {k : Int} {record : SampleRecord} (hs : s.fe.lastSample = some record) (h : startsPulse s k = true) :
    offerPulse k s = (s.setPulse ⟨.pulsing, 0, false, some ⟨record.voltage, record.current⟩, none⟩).setRest
      { s.rest with state := .postPulseSettling, restTimer := none, longTimer := none, reference := none } := by
  simp only [offerPulse, hs, h, if_true]

theorem offerPulse_rests {k : Int} (h : startsPulse s k = false) : offerPulse k s = enterRested s := by
  unfold offerPulse
  split
  · rw [h, if_neg Bool.false_ne_true]
  · rfl

/-- When a pulse begins (R39). -/
theorem startsPulse_iff (s : State) (k : Int) : startsPulse s k = true ↔ s.pulse.state = .idle
    ∧ (s.grade.r25c = none ∨ s.ret.lastPulse = none ∨ s.ret.lastPulse.getD 0 + (prof s).pulseInterval * 3600 ≤ s.seconds)
    ∧ (prof s).pulseLow ≤ k ∧ k ≤ (prof s).pulseHigh := by
  simp only [startsPulse, pulseDue, inWindow, Bool.and_eq_true, Bool.or_eq_true, decide_eq_true_eq, Option.isNone_iff_eq_none,
    and_assoc]
  cases s.ret.lastPulse <;> simp

/-- An offer touches the pulse engine and the rest detector only, and keeps the removal requests. -/
theorem offerPulse_frame {v : VoltageSample} {k k' : Int} (hv : s.fe.lastVoltage = some v)
    (hk : s.fe.lastTemperature = some k) : ∃ pulse rest, rest.removals = s.rest.removals ∧ rest.restTimer = none
      ∧ offerPulse k' s = (s.setPulse pulse).setRest rest := by
  unfold offerPulse
  split
  · split
    · refine ⟨_, _, ?_, ?_, rfl⟩ <;> rfl
    · refine ⟨s.pulse, _, ?_, ?_, enterRested_eq hv hk⟩ <;> rfl
  · refine ⟨s.pulse, _, ?_, ?_, enterRested_eq hv hk⟩ <;> rfl

/-- What a capture leaves outside the pulse engine and the rest detector is what the examination leaves. -/
theorem capture_frame {v : VoltageSample} {k : Int} (hv : s.fe.lastVoltage = some v) (hk : s.fe.lastTemperature = some k) :
    ∃ pulse rest, rest.removals = (examinePair (withPoint v k s)).rest.removals ∧ rest.restTimer = none
      ∧ capture s = ((examinePair (withPoint v k s)).setPulse pulse).setRest rest := by
  rw [capture_eq hv hk]
  have hfe : (restStopped (examinePair (withPoint v k s))).fe = s.fe := by
    obtain ⟨o, g, b, n, table, bond, q, t, r, -, h⟩ := examinePair_frame (withPoint v k s)
    rw [h]
    rfl
  obtain ⟨pulse, rest, hrem, htimer, h⟩ := offerPulse_frame (s := restStopped (examinePair (withPoint v k s))) (k' := k)
    (by rw [hfe, hv]) (by rw [hfe, hk])
  exact ⟨pulse, rest, hrem, htimer, h⟩

/-- The retained items after a capture: the point, the pair, and what an estimate brings. -/
theorem capture_ret {v : VoltageSample} {k : Int} (hv : s.fe.lastVoltage = some v) (hk : s.fe.lastTemperature = some k) :
    (capture s).ret.points = addPoint (formPoint s v k) s.ret.points ∧ EstimateOnly s.grade (capture s).grade
      ∧ (capture s).ret.charge = s.ret.charge ∧ (capture s).ret.residue = s.ret.residue ∧ (capture s).fe = s.fe := by
  obtain ⟨pulse, rest, -, -, hc⟩ := capture_frame hv hk
  obtain ⟨o, g, b, n, table, bond, q, t, r, hg, h⟩ := examinePair_frame (withPoint v k s)
  rw [hc, h]
  exact ⟨rfl, hg, rfl, rfl, rfl⟩

/-- Settles O28: the point and the examination, then the pulse or the rest. -/
theorem captureTakesPoint : Obligations.CaptureTakesPoint := by
  unfold Obligations.CaptureTakesPoint
  intro s v hv k hk record hrec soc starts examined
  have hex : examined = examinePair (withPoint v k s) := rfl
  obtain ⟨hpoints, -, hcharge, hresidue, hfe⟩ := capture_ret hv hk
  obtain ⟨pulse, rest, hrem, htimer, hc⟩ := capture_frame hv hk
  obtain ⟨o, g, b, n, table, bond, q, t, r, hg, hframe⟩ := examinePair_frame (withPoint v k s)
  have hg25 : g.r25c = s.grade.r25c := by
    rw [show g = _ from hg]
    rfl
  have hcap : capture s = offerPulse k (restStopped examined) := capture_eq hv hk
  have hstarts : startsPulse (restStopped examined) k = true ↔ starts := by
    rw [startsPulse_iff, hex, hframe]
    show s.pulse.state = .idle ∧ (g.r25c = none ∨ _) ∧ _ ↔ _
    rw [hg25]
    rfl
  refine ⟨hpoints, ?_, ?_, ?_, ?_, ?_, hcharge, hresidue, hfe, ?_, fun h => ?_, fun h => ?_⟩
  · rw [hc]; rfl
  · rw [hc]; exact hrem
  · rw [hc]; rfl
  · rw [hc]; rfl
  · rw [hc]; rfl
  · rw [hc]; exact htimer
  · rw [hcap, offerPulse_starts (record := record) (by rw [hex, hframe]; exact hrec) (hstarts.2 h)]
    exact ⟨rfl, rfl, rfl, rfl⟩
  · rw [hcap, offerPulse_rests (Bool.eq_false_iff.2 (mt hstarts.1 h)),
      enterRested_eq (v := v) (k := k) (by rw [hex, hframe]; exact hv) (by rw [hex, hframe]; exact hk), hex, hframe]
    exact ⟨rfl, rfl, rfl, rfl⟩

/-! ## The rest timers -/

theorem temperatureIn_eq {k : Int} (hk : s.fe.lastTemperature = some k) : temperatureIn s = inCaptureWindow (prof s) k := by
  simp only [temperatureIn, hk]

theorem inCaptureWindow_iff (p : Profile) (k : Int) :
    inCaptureWindow p k = true ↔ p.captureLow ≤ k ∧ k ≤ p.captureHigh := decide_eq_true_iff

/-- The expiry of the rest timer in SETTLING, by the temperature (R24). -/
theorem restTimerEnds_settling {k : Int} (hst : s.rest.state = .settling) (hk : s.fe.lastTemperature = some k) :
    restTimerEnds s = if inCaptureWindow (prof s) k = true then capture (s.setRest { s.rest with restTimer := none })
      else s.setRest { s.rest with state := .capturePending, restTimer := none } := by
  simp only [restTimerEnds, State.setRest_rest, hst, temperatureIn, State.setRest_fe, hk]
  rfl

/-- The state after the long-rest timer's expiry has consumed the reference. -/
def longRestEnded (s : State) : State := s.setRest { s.rest with longTimer := none, reference := none }

/-- The expiry of the long-rest timer: the offer of a rate, then a capture, or RESTED anew (R30). -/
theorem longRestEnds_eq {ref : LongRestReference} {v : VoltageSample} {k : Int} (href : s.rest.reference = some ref)
    (hv : s.fe.lastVoltage = some v) (hk : s.fe.lastTemperature = some k) :
    longRestEnds s =
      if inCaptureWindow (prof s) k = true then
        capture (takeSelfDischarge ref (socOf s v) k (longRestEnded s))
      else enterRested (longRestEnded s) := by
  have hoffer : offerSelfDischarge (s.setRest { s.rest with longTimer := none }) =
      takeSelfDischarge ref (socOf s v) k (longRestEnded s) := by
    simp only [offerSelfDischarge, State.setRest_rest, State.setRest_fe, href, hv, hk]
    rfl
  have hframe : (takeSelfDischarge ref (socOf s v) k (longRestEnded s)).fe = s.fe
      ∧ prof (takeSelfDischarge ref (socOf s v) k (longRestEnded s)) = prof s := by
    unfold takeSelfDischarge
    split
    · obtain ⟨e, b, n, table, bond, q, t, -, hg⟩ := gradeEvent_frame
        { (longRestEnded s).grade with
          sd := some (selfDischarge ref.soc ref.time (socOf s v) (longRestEnded s).seconds) } (longRestEnded s)
      rw [hg]
      exact ⟨rfl, rfl⟩
    · exact ⟨rfl, rfl⟩
  obtain ⟨hfe, hprof⟩ := hframe
  unfold longRestEnds
  dsimp only
  rw [hoffer, temperatureIn_eq (k := k) (by rw [hfe, hk]), hprof]
  split
  · rfl
  · rename_i hout
    have hnone : takeSelfDischarge ref (socOf s v) k (longRestEnded s) = longRestEnded s := if_neg fun h => hout h.2
    rw [hnone]

/-- Settles O30: the two timers, each by the temperature. -/
theorem restTimersExpire : Obligations.RestTimersExpire := by
  unfold Obligations.RestTimersExpire
  refine ⟨?_, ?_⟩
  · intro s hr e he hdue v hv k hk stopped
    have hexec : exec .restTimerExpiry s = .next (settle (restTimerEnds s)) :=
      whenever_of (by rw [hr, he]; exact decide_eq_true hdue)
    rw [hexec]
    refine ⟨fun hst hlo hhi => ?_, fun hst hout => ?_, fun hst => ?_⟩
    · rw [restTimerEnds_settling hst hk, if_pos ((inCaptureWindow_iff _ _).2 ⟨hlo, hhi⟩)]
      rfl
    · rw [restTimerEnds_settling hst hk, if_neg]
      · rfl
      · rw [inCaptureWindow_iff]
        omega
    · have hrested := fun rest => enterRested_eq (s := s.setRest rest) hv hk
      simp only [restTimerEnds, State.setRest_rest, hst, hrested]
      rfl
  · intro s hr hst e he hdue ref href v hv k hk soc ended
    have hexec : exec .longRestExpiry s = .next (settle (longRestEnds s)) :=
      whenever_of (by rw [hr, he, hst, Bool.true_and]; exact (Bool.and_true _).trans (decide_eq_true hdue))
    have hends := longRestEnds_eq href hv hk
    have hsd : ∀ hin : inCaptureWindow (prof s) k = true, inCaptureWindow (prof s) ref.temperature = true →
        longRestEnds s = capture (gradeEvent { s.grade with
          sd := some (if ref.soc < soc then 0
            else min 65535 (roundHalfUp ((ref.soc - soc) * 86400) (s.seconds - ref.time))) } ended) := fun hin href' => by
      rw [hends, if_pos hin, takeSelfDischarge, if_pos ⟨href', hin⟩]
      rfl
    have hno : ∀ hin : inCaptureWindow (prof s) k = true, inCaptureWindow (prof s) ref.temperature = false →
        longRestEnds s = capture ended := fun hin href' => by
      rw [hends, if_pos hin, takeSelfDischarge, if_neg fun h => Bool.false_ne_true (href'.symm.trans h.1)]
      rfl
    rw [hexec]
    refine ⟨fun hout => ?_, fun hin href' => by rw [hsd hin href'], fun hin href' => by rw [hno hin href'], fun hin => ?_⟩
    · rw [hends, if_neg (by rw [hout]; exact Bool.false_ne_true), enterRested_eq (s := longRestEnded s) hv hk]
      have hstate : (longRestEnded s).rest.state = .rested := hst
      refine congrArg (fun u => Host.Outcome.next (settle u)) ?_
      show s.setRest _ = s.setRest _
      rw [← hst]
      rfl
    · refine ⟨_, rfl, ?_⟩
      simp only [settle_ret, settle_grade]
      cases href' : inCaptureWindow (prof s) ref.temperature with
      | true =>
        rw [hsd hin href']
        have hfacts : ∀ sd, (gradeEvent { s.grade with sd := sd } ended).fe = s.fe
            ∧ (gradeEvent { s.grade with sd := sd } ended).seconds = s.seconds
            ∧ prof (gradeEvent { s.grade with sd := sd } ended) = prof s
            ∧ (gradeEvent { s.grade with sd := sd } ended).ret.points = s.ret.points
            ∧ (gradeEvent { s.grade with sd := sd } ended).ret.charge = s.ret.charge
            ∧ (gradeEvent { s.grade with sd := sd } ended).grade.sd = sd
            ∧ (gradeEvent { s.grade with sd := sd } ended).grade.r25c = s.grade.r25c := fun sd => by
          obtain ⟨e', b, n, table, bond, q, t, -, hg⟩ := gradeEvent_frame { s.grade with sd := sd } ended
          rw [hg]
          exact ⟨rfl, rfl, rfl, rfl, rfl, rfl, rfl⟩
        obtain ⟨hfe, hsec, hprof, hpts, hchg, hrate, hres⟩ := hfacts (some (if ref.soc < soc then 0
          else min 65535 (roundHalfUp ((ref.soc - soc) * 86400) (s.seconds - ref.time))))
        obtain ⟨hp, he', hc, -, -⟩ := capture_ret (hfe ▸ hv) (hfe ▸ hk)
        refine ⟨?_, fun _ => ?_, fun h => absurd h.symm Bool.false_ne_true, ?_, hc.trans hchg⟩
        · rw [hp, hpts, formPoint, socOf, hsec, hprof, hchg]
        · rw [he']
          exact hrate
        · rw [he']
          exact hres
      | false =>
        rw [hno hin href']
        obtain ⟨hp, he', hc, -, -⟩ := capture_ret (s := ended) hv hk
        refine ⟨hp, fun h => absurd h Bool.false_ne_true, fun _ => ?_, ?_, hc⟩
        · rw [he']
          rfl
        · rw [he']
          rfl

end Sys2Proof.Machine
end

section
/-! SUPPORT. The timers of the link and of the bond engine (R110, R142, R149, R151, R153), the attempt from its begin to its
holdoff (R89 to R93), and the line bit by bit. Settles O31, O32, O35 and O36. -/

namespace Sys2Proof.Machine

variable {s : State}

/-! ## The timers -/

theorem candidateHead_nil (h : candidates (prof s) s.grade s.table = []) : candidateHead s = none := by
  rw [candidateHead, h]; rfl

theorem candidateHead_cons {e : PeerEntry} {rest : List PeerEntry} (h : candidates (prof s) s.grade s.table = e :: rest) :
    candidateHead s = some e := by
  rw [candidateHead, h]; rfl

theorem proposeToHead_none (h : candidateHead s = none) : proposeToHead s = s := by rw [proposeToHead, h]

/-- The proposal to the head of the candidate order (R143). -/
theorem proposeToHead_some {e : PeerEntry} (h : candidateHead s = some e) :
    proposeToHead s = enterProposing e.number (queueTakes s.link (proposeFrame s e.number (e.score.getD 0)))
      (offer (proposeFrame s e.number (e.score.getD 0)) s) := by rw [proposeToHead, h]

/-- Whether the queue took a frame is read off the queue after its offer. -/
theorem queueTakes_eq (l : Link) (f : Frame) : queueTakes l f = decide ((offerFrame l f).queue ≠ l.queue) := by
  rw [offerFrame_queue]; rfl

/-- Settles O31: the announce timer outright, the proposal timer by the candidate order. -/
theorem scheduleTimersExpire : Obligations.ScheduleTimersExpire := by
  unfold Obligations.ScheduleTimersExpire
  intro s hr own again
  refine ⟨fun h => whenever_of (by rw [hr, h]; rfl), fun h => whenever_not (by rw [h, hr]; rfl),
    fun h => whenever_not (by rw [h, hr]; rfl), fun ht hno => ?_, fun ht hb hf e rest hc => ?_⟩
  · have hexec : exec .proposalTimerExpiry s =
        .next (settle (if s.ret.bondState = .free ∧ s.ret.freeze = false then proposeToHead again else again)) :=
      whenever_of (by rw [hr, ht]; rfl)
    rw [hexec]
    split_ifs with hfree
    · rcases hno with h | h | h
      · exact absurd hfree.1 h
      · exact absurd (hfree.2.symm.trans h) Bool.false_ne_true
      · rw [proposeToHead_none (s := again) (candidateHead_nil h)]
    · rfl
  · have hexec : exec .proposalTimerExpiry s =
        .next (settle (if s.ret.bondState = .free ∧ s.ret.freeze = false then proposeToHead again else again)) :=
      whenever_of (by rw [hr, ht]; rfl)
    rw [hexec, if_pos ⟨hb, hf⟩, proposeToHead_some (s := again) (candidateHead_cons hc), queueTakes_eq]
    rfl

/-- Settles O32: each timer's expiry is an exit of the bond engine, or the frozen bond gone silent. -/
theorem bondTimersExpire : Obligations.BondTimersExpire := by
  unfold Obligations.BondTimersExpire
  intro s hr
  refine ⟨fun ht hb n he => ?_, fun ht hb => ?_, fun ht hb hf => ?_, fun ht hb hf => ?_,
    fun h => whenever_not (by rw [h, hr]; rfl), fun h => whenever_not (by rw [h, hr]; rfl),
    fun h => whenever_not (by rw [h, hr]; rfl)⟩
  · have hexec : exec .replyTimerExpiry s = .next (settle (replyTimerEnds s)) :=
      whenever_of (by rw [hr, ht, hb]; rfl)
    have hends : replyTimerEnds s = disengageMarked n .silent s := by rw [replyTimerEnds, he]
    rw [hexec, hends, disengageMarked_proposing _ hb he]
  · have hexec : exec .holdTimerExpiry s = .next (settle (disengage .free s)) :=
      whenever_of (by rw [hr, ht, hb]; rfl)
    rw [hexec, disengage_of_not_proposing _ (by rw [hb]; decide)]
  · have hexec : exec .partnerTimerExpiry s = .next (settle (disengage .free s)) := 
      (whenever_of (by rw [hr, ht, hb]; rfl)).trans (by rw [hf]; rfl)
    rw [hexec, disengage_of_not_proposing _ (by rw [hb]; decide)]
  · have hexec : exec .partnerTimerExpiry s = .next (settle
        ((setBondState .bondedSilent s.ret.engaged s).setBond { s.bond with partnerTimer := none })) :=
      (whenever_of (by rw [hr, ht, hb]; rfl)).trans (by rw [hf]; rfl)
    rw [hexec]
    rfl

/-! ## The line bit by bit -/

theorem sampled_append_one (bits : List Bool) (b : Bool) (s : State) :
    (sampled (bits ++ [b]) s).link =
      sampleBit s.comm.held (bitsPerSecond (prof s).bitRateCode) (sampled bits s).link b := by
  show sampleBits _ _ s.link (bits ++ [b]) = _
  rw [sampleBits_append]
  rfl

/-- An attempt takes the bit read back. -/
theorem sampled_append_attempt {bits : List Bool} {a : Attempt} (hon : (sampled bits s).link.receiver.state ≠ .off)
    (ha : (sampled bits s).link.attempt = some a) (b : Bool) :
    (sampled (bits ++ [b]) s).link.attempt = some (attemptBit a b) := by
  rw [sampled_append_one, sampleBit_on _ _ b hon, ha]
  rfl

theorem attemptBit_shown {a : Attempt} (h : a.outcome ≠ none) (b : Bool) : attemptBit a b = a := by
  unfold attemptBit
  cases ho : a.outcome with
  | none => exact absurd ho h
  | some o => rfl

/-- The bit an attempt sent, read back as sent or not (R90 to R92). -/
theorem attemptBit_reads {a : Attempt} {e : Bool} (ho : a.outcome = none) (he : a.bits[a.sent]? = some e) (b : Bool) :
    attemptBit a b = if b = e then
        { a with sent := a.sent + 1, outcome := if a.sent + 1 = a.bits.length then some .complete else none }
      else { a with outcome := some (if e then .lost else .lineFault) } := by
  unfold attemptBit
  rw [ho, he]

/-! ## The holdoff and the outcome of an attempt -/

/-- An attempt that ends: the holdoff runs, and one of 0 is over at once (R93). -/
theorem startHoldoff_eq (n : Nat) {l : Link} {q : List Frame} (hq : l.queue = q) : startHoldoff n l = { l with
    transmitter := if n = 0 then (if q = [] then .idle else .wait) else .holdoff
    holdoff := if n = 0 then none else some n
    attempt := none } := by
  subst hq
  unfold startHoldoff
  by_cases hn : n = 0
  · simp only [hn, if_true, afterHoldoff]
  · simp only [hn, if_false]

theorem outcomeIs_of {o : AttemptOutcome} {a : Attempt} (ht : s.link.transmitter = .sending) (ha : s.link.attempt = some a)
    (ho : a.outcome = some o) : outcomeIs o s = true := by
  simp only [outcomeIs, ht, ha, ho]
  simp

theorem outcomeIs_not {o : AttemptOutcome}
    (h : s.link.transmitter ≠ .sending ∨ ∀ a, s.link.attempt = some a → a.outcome ≠ some o) : outcomeIs o s = false := by
  unfold outcomeIs
  rcases h with h | h
  · simp only [h, decide_false, Bool.false_and]
  · cases ha : s.link.attempt with
    | none => exact Bool.and_false _
    | some a => simp [h a ha]

/-- Settles O35: the three commands as they stand, and the bit that loses. -/
theorem arbitrationAndHoldoff : Obligations.ArbitrationAndHoldoff := by
  unfold Obligations.ArbitrationAndHoldoff
  intro bits s hr u waiting
  refine ⟨fun ht a ha ho => ?_, fun h => lineStep_not hr (outcomeIs_not h), fun ht hh => ?_,
    fun h => whenever_not (by rw [h, hr]; rfl), fun hon a ha => ⟨fun ho he => ?_, fun ho b => ?_⟩,
    sampled_queue bits s, sampled_fifo bits s, rfl, rfl⟩
  · have hexec : exec (.arbitrationLoss bits) s = .next (settle (loseAttempt u)) :=
      lineStep_of hr (outcomeIs_of ht ha ho)
    rw [hexec, loseAttempt, startHoldoff_eq _ (sampled_queue bits s)]
    rfl
  · have hexec : exec .holdoffExpiry s = .next (settle (s.setLink (afterHoldoff s.link))) :=
      whenever_of (by rw [hr, ht, hh]; rfl)
    rw [hexec]
    rfl
  · rw [sampled_append_attempt hon ha, attemptBit_reads ho he, if_neg Bool.false_ne_true, if_pos rfl]
  · rw [sampled_append_attempt hon ha, attemptBit_shown ho]

/-! ## The attempt begins -/

theorem mayBegin_iff : mayBegin s = true ↔
    s.link.transmitter = .wait ∧ s.link.queue ≠ [] ∧ 11 ≤ s.link.receiver.recessiveRun := by
  unfold mayBegin lineIdle
  rw [Bool.and_eq_true, Bool.and_eq_true, decide_eq_true_iff, decide_eq_true_iff, Bool.not_eq_true', List.isEmpty_eq_false_iff,
    and_assoc]
  exact Iff.rfl

theorem beginAttempt_other {f : Frame} {rest : List Frame} (hq : s.link.queue = f :: rest) (hk : f.kind ≠ 0x02#8) :
    beginAttempt s = s.setLink { s.link with transmitter := .sending, attempt := some (attemptOf f) } := by
  have hkind : (f.kind == kindAnnounce) = false := beq_eq_false_iff_ne.2 hk
  simp only [beginAttempt, hq, attemptFrame, hkind, Bool.false_eq_true, if_false]

/-- An ANNOUNCE takes its content at the attempt, which clears the two marks (R112). -/
theorem beginAttempt_announce {f : Frame} {rest : List Frame} (hq : s.link.queue = f :: rest) (hk : f.kind = 0x02#8) :
    beginAttempt s = clearMarks (s.setLink { s.link with
      transmitter := .sending
      attempt := some (attemptOf { f with src := ownByte s, payload := announcePayload s }) }) := by
  have hkind : (f.kind == kindAnnounce) = true := beq_iff_eq.2 hk
  simp only [beginAttempt, hq, attemptFrame, hkind, if_true]

/-- Settles O36: the head begins, or nothing but the bits. -/
theorem attemptBegins : Obligations.AttemptBegins := by
  unfold Obligations.AttemptBegins
  intro bits s hr u attempt own
  have hqueue : u.link.queue = s.link.queue := sampled_queue bits s
  refine ⟨fun ht hidle f rest hq => ?_, fun h => lineStep_not hr (Bool.eq_false_iff.2 fun hb => ?_)⟩
  · have hhead : u.link.queue = f :: rest := hqueue.trans hq
    have hexec : exec (.attemptBegin bits) s = .next (settle (beginAttempt u)) :=
      lineStep_of hr (mayBegin_iff.2 ⟨ht, by rw [hhead]; exact List.cons_ne_nil _ _, hidle⟩)
    rw [hexec]
    exact ⟨fun hk => by rw [beginAttempt_other hhead hk]; rfl, fun hk => by rw [beginAttempt_announce hhead hk]; rfl⟩
  · obtain ⟨ht, hq, hidle⟩ := mayBegin_iff.1 hb
    rcases h with h | h | h
    · exact h ht
    · exact hq (hqueue.trans h)
    · exact absurd hidle (Nat.not_le.2 h)

end Sys2Proof.Machine
end

section
/-! SUPPORT. The transmit queue as a list (R95 to R97, R99) and the passage of the transmitter between IDLE and WAIT (R89). Settles
O34. -/

namespace Sys2Proof.Machine

variable {l : Link} {f : Frame} {p : Frame → Bool}

/-! ## The transmitter follows the queue -/

theorem transmitterFollows_frame (l : Link) :
    transmitterFollows l = { l with transmitter := (transmitterFollows l).transmitter } := by
  unfold transmitterFollows
  cases l.transmitter with
  | idle => dsimp only; split_ifs <;> rfl
  | wait => dsimp only; split_ifs <;> rfl
  | sending => rfl
  | holdoff => rfl

theorem transmitterFollows_between (h : l.transmitter = .idle ∨ l.transmitter = .wait) :
    (transmitterFollows l).transmitter = if l.queue = [] then .idle else .wait := by
  unfold transmitterFollows
  rcases h with h | h <;> simp only [h] <;> split_ifs <;> simp only [h]

theorem transmitterFollows_busy (h : l.transmitter = .sending ∨ l.transmitter = .holdoff) : transmitterFollows l = l := by
  unfold transmitterFollows
  rcases h with h | h <;> rw [h]

/-! ## What the queue does with an offer -/

theorem modePermits_iff : modePermits l.mode f = true ↔
    l.mode = .up ∨ (l.mode = .listen ∧ (f.kind = 0x01#8 ∨ isRequest f = true)) := by
  unfold modePermits
  cases l.mode <;> simp [kindEnum]

theorem duplicateOf_iff : duplicateOf l.queue f = true ↔
    (f.kind = 0x02#8 ∧ ∃ g ∈ l.queue, g.kind = 0x02#8)
      ∨ (f.kind = 0x01#8 ∧ ∃ g ∈ l.queue, g.kind = 0x01#8) ∨ (isRequest f = true ∧ ∃ g ∈ l.queue, isRequest g = true) := by
  simp only [duplicateOf, kindAnnounce, kindEnum, Bool.or_eq_true, Bool.and_eq_true, beq_iff_eq, List.any_eq_true, or_assoc]

theorem queueAfterOffer_forbidden (h : modePermits l.mode f = false) : queueAfterOffer l f = l.queue := if_pos h

theorem queueAfterOffer_second (h : duplicateOf l.queue f = true) : queueAfterOffer l f = l.queue := by
  unfold queueAfterOffer
  rw [if_pos h, ite_self]

theorem queueAfterOffer_room (hm : modePermits l.mode f = true) (hd : duplicateOf l.queue f = false)
    (hroom : l.queue.length < 4) : queueAfterOffer l f = l.queue ++ [f] := by
  unfold queueAfterOffer
  rw [if_neg (by rw [hm]; decide), if_neg (by rw [hd]; decide),
    if_pos (c := l.queue.length < Config.queuePlaces) hroom]

theorem queueAfterOffer_full_dropped (hfull : l.queue.length = 4) (h : f.kind = 0x02#8 ∨ isSegment f = true) :
    queueAfterOffer l f = l.queue := by
  have hkind : (f.kind == kindAnnounce || isSegment f) = true := by
    rw [Bool.or_eq_true, beq_iff_eq]
    exact h
  unfold queueAfterOffer
  rw [if_neg (c := l.queue.length < Config.queuePlaces) (by rw [hfull]; decide), if_pos hkind, ite_self, ite_self]

/-- A full queue takes another frame in the place of an ANNOUNCE, or drops it (R96). -/
theorem queueAfterOffer_full (hm : modePermits l.mode f = true) (hd : duplicateOf l.queue f = false)
    (hfull : l.queue.length = 4) (hk : f.kind ≠ 0x02#8) (hs : isSegment f = false) :
    queueAfterOffer l f =
      if (withoutAnnounce l.transmitter l.queue).length < 4 then withoutAnnounce l.transmitter l.queue ++ [f] else l.queue := by
  have hkind : (f.kind == kindAnnounce || isSegment f) = false := by
    rw [hs, Bool.or_false]
    exact beq_eq_false_iff_ne.2 hk
  unfold queueAfterOffer
  rw [if_neg (by rw [hm]; decide), if_neg (by rw [hd]; decide),
    if_neg (c := l.queue.length < Config.queuePlaces) (by rw [hfull]; decide), if_neg (by rw [hkind]; decide)]
  rfl

theorem eraseP_at {pre post : List Frame} {g : Frame} (hg : p g = true) (hpre : ∀ x ∈ pre, p x = false) :
    (pre ++ g :: post).eraseP p = pre ++ post := by
  rw [List.eraseP_append_right _ fun x hx => by rw [hpre x hx]; decide, List.eraseP_cons_of_pos hg]

theorem withoutAnnounce_of_none {t : TransmitterState} {q : List Frame}
    (h : ∀ g ∈ q, g.kind ≠ 0x02#8) : withoutAnnounce t q = q := by
  have hno : ∀ r : List Frame, (∀ g ∈ r, g.kind ≠ 0x02#8) → r.eraseP (fun g => g.kind == kindAnnounce) = r := fun r hr =>
    List.eraseP_of_forall_not fun g hg hk => hr g hg (beq_iff_eq.1 hk)
  unfold withoutAnnounce
  split
  · rw [hno _ fun g hg => h g (List.mem_cons_of_mem _ hg)]
  · exact hno _ h

/-- The ANNOUNCE in SENDING stays (R96). -/
theorem withoutAnnounce_sending {g : Frame} {post : List Frame} (h : ∀ x ∈ post, x.kind ≠ 0x02#8) :
    withoutAnnounce .sending (g :: post) = g :: post := by
  have hpost : post.eraseP (fun g => g.kind == kindAnnounce) = post :=
    List.eraseP_of_forall_not fun x hx hk => h x hx (beq_iff_eq.1 hk)
  exact congrArg (g :: ·) hpost

/-- The first ANNOUNCE that is not in SENDING leaves (R96). -/
theorem withoutAnnounce_at {t : TransmitterState} {pre post : List Frame} {g : Frame} (hg : g.kind = 0x02#8)
    (hpre : ∀ x ∈ pre, x.kind ≠ 0x02#8) (hs : t = .sending → pre ≠ []) :
    withoutAnnounce t (pre ++ g :: post) = pre ++ post := by
  have hno : ∀ x : Frame, x.kind ≠ 0x02#8 → (x.kind == kindAnnounce) = false := fun x hx => beq_eq_false_iff_ne.2 hx
  cases t with
  | sending =>
    cases pre with
    | nil => exact absurd rfl (hs rfl)
    | cons h rest =>
      show h :: (rest ++ g :: post).eraseP _ = _
      rw [eraseP_at (p := fun g => g.kind == kindAnnounce) (beq_iff_eq.2 hg)
        fun x hx => hno x (hpre x (List.mem_cons_of_mem _ hx))]
      rfl
  | idle => exact eraseP_at (beq_iff_eq.2 hg) fun x hx => hno x (hpre x hx)
  | wait => exact eraseP_at (beq_iff_eq.2 hg) fun x hx => hno x (hpre x hx)
  | holdoff => exact eraseP_at (beq_iff_eq.2 hg) fun x hx => hno x (hpre x hx)

/-! ## What the queue does with a withdrawal -/

/-- The queue after a withdrawal: the head in SENDING is no candidate (R97). -/
def queueAfterWithdrawal (t : TransmitterState) (p : Frame → Bool) (q : List Frame) : List Frame :=
  match t, q with
  | .sending, h :: rest => h :: eraseNewest p rest
  | _, q => eraseNewest p q

theorem withdrawFrame_eq (l : Link) (p : Frame → Bool) :
    withdrawFrame l p = transmitterFollows { l with queue := queueAfterWithdrawal l.transmitter p l.queue } := rfl

theorem withdrawFrame_queue (l : Link) (p : Frame → Bool) :
    (withdrawFrame l p).queue = queueAfterWithdrawal l.transmitter p l.queue := by
  rw [withdrawFrame_eq, transmitterFollows_queue]

theorem eraseNewest_none {q : List Frame} (h : ∀ g ∈ q, p g = false) : eraseNewest p q = q := by
  rw [eraseNewest, List.eraseP_of_forall_not fun g hg => by rw [h g (List.mem_reverse.1 hg)]; decide, List.reverse_reverse]

theorem eraseNewest_at {pre post : List Frame} {g : Frame} (hg : p g = true) (hpost : ∀ x ∈ post, p x = false) :
    eraseNewest p (pre ++ g :: post) = pre ++ post := by
  rw [eraseNewest, List.reverse_append, List.reverse_cons, List.append_assoc, List.singleton_append,
    eraseP_at hg fun x hx => hpost x (List.mem_reverse.1 hx), List.reverse_append, List.reverse_reverse, List.reverse_reverse]

theorem queueAfterWithdrawal_none {t : TransmitterState} {q : List Frame} (h : ∀ g ∈ q, p g = false) :
    queueAfterWithdrawal t p q = q := by
  unfold queueAfterWithdrawal
  split
  · rw [eraseNewest_none fun g hg => h g (List.mem_cons_of_mem _ hg)]
  · exact eraseNewest_none h

theorem queueAfterWithdrawal_head {g : Frame} {post : List Frame} (hpost : ∀ x ∈ post, p x = false) :
    queueAfterWithdrawal .sending p (g :: post) = g :: post := by
  show g :: eraseNewest p post = _
  rw [eraseNewest_none hpost]

theorem queueAfterWithdrawal_at {t : TransmitterState} {pre post : List Frame} {g : Frame} (hg : p g = true)
    (hpost : ∀ x ∈ post, p x = false) (hs : ¬ (t = .sending ∧ pre = [])) :
    queueAfterWithdrawal t p (pre ++ g :: post) = pre ++ post := by
  cases t with
  | sending =>
    cases pre with
    | nil => exact absurd ⟨rfl, rfl⟩ hs
    | cons h rest =>
      show h :: eraseNewest p (rest ++ g :: post) = _
      rw [eraseNewest_at hg hpost]
      rfl
  | idle => exact eraseNewest_at hg hpost
  | wait => exact eraseNewest_at hg hpost
  | holdoff => exact eraseNewest_at hg hpost

/-- The queued frames that are not in SENDING. -/
def behindSending (t : TransmitterState) (q : List Frame) : List Frame :=
  match t, q with
  | .sending, _ :: rest => rest
  | _, q => q

theorem queuedNotSending_eq (l : Link) (p : Frame → Bool) :
    queuedNotSending l p = (behindSending l.transmitter l.queue).any p := by
  unfold queuedNotSending behindSending
  cases l.transmitter with
  | sending => cases l.queue <;> rfl
  | idle => rfl
  | wait => rfl
  | holdoff => rfl

theorem behindSending_sublist (t : TransmitterState) (q : List Frame) : (behindSending t q).Sublist q := by
  unfold behindSending
  split
  · exact List.sublist_cons_self _ _
  · exact List.Sublist.refl _

theorem mem_behindSending {t : TransmitterState} {pre post : List Frame} {g : Frame} (hs : ¬ (t = .sending ∧ pre = [])) :
    g ∈ behindSending t (pre ++ g :: post) := by
  unfold behindSending
  split
  · rename_i hq
    cases pre with
    | nil => exact absurd ⟨rfl, rfl⟩ hs
    | cons h rest =>
      obtain ⟨-, hrest⟩ := List.cons.inj hq
      rw [← hrest]
      simp
  · simp

/-- No frame to take where none that meets the test stands behind the one in SENDING. -/
theorem queuedNotSending_none (h : ∀ g ∈ behindSending l.transmitter l.queue, p g = false) : queuedNotSending l p = false := by
  rw [queuedNotSending_eq, List.any_eq_false]
  exact fun g hg => by rw [h g hg]; decide

/-- Settles O34: the queue is that of `queueAfterOffer` and `queueAfterWithdrawal`, and the transmitter follows it. -/
theorem offerRules : Obligations.OfferRules := by
  unfold Obligations.OfferRules
  intro l f p u w permitted second
  have hu : u.queue = queueAfterOffer l f := offerFrame_queue l f
  have hw : w.queue = queueAfterWithdrawal l.transmitter p l.queue := withdrawFrame_queue l p
  have hpermits : modePermits l.mode f = true ↔ permitted := modePermits_iff
  have hsecond : duplicateOf l.queue f = true ↔ second := duplicateOf_iff
  have hfull : permitted → ¬ second → l.queue.length = 4 → f.kind ≠ 0x02#8 → isSegment f = false → _ :=
    fun hp hd => queueAfterOffer_full (hpermits.2 hp) (Bool.eq_false_iff.2 (mt hsecond.1 hd))
  have hstays : l.queue.length = 4 → withoutAnnounce l.transmitter l.queue = l.queue → u.queue = l.queue := fun hlen hkeep => by
    rw [hu]
    by_cases hp : permitted
    · by_cases hd : second
      · exact queueAfterOffer_second (hsecond.2 hd)
      · by_cases hk : f.kind = 0x02#8
        · exact queueAfterOffer_full_dropped hlen (.inl hk)
        · cases hs : isSegment f with
          | true => exact queueAfterOffer_full_dropped hlen (.inr hs)
          | false => rw [hfull hp hd hlen hk hs, hkeep, if_neg (by omega)]
    · exact queueAfterOffer_forbidden (Bool.eq_false_iff.2 (mt hpermits.1 hp))
  refine ⟨offerFrame_frame l f, fun h => ?_, fun h => ?_, fun h => ?_, fun h => ?_, fun hp hd hroom => ?_, fun hlen h => ?_,
    fun hp hd hlen hk hs pre g post hq hg hpre hhead => ?_, fun hlen h => ?_, fun hlen ht g post hq hg hpost => ?_,
    withdrawFrame_frame l p, fun h => ?_, fun h => ?_, fun h => ?_, fun pre g post hq hg hpost => ⟨?_, ?_⟩, ?_, fun n => ?_⟩
  · rw [hu]
    exact transmitterFollows_between (l := { l with queue := queueAfterOffer l f }) h
  · exact (congrArg Link.transmitter (transmitterFollows_busy (l := { l with queue := queueAfterOffer l f }) h)).trans rfl
  · rw [hu, queueAfterOffer_forbidden (Bool.eq_false_iff.2 (mt hpermits.1 h))]
  · rw [hu, queueAfterOffer_second (hsecond.2 h)]
  · rw [hu, queueAfterOffer_room (hpermits.2 hp) (Bool.eq_false_iff.2 (mt hsecond.1 hd)) hroom]
  · rw [hu, queueAfterOffer_full_dropped hlen h]
  · rw [hu, hfull hp hd hlen hk hs, hq, withoutAnnounce_at hg hpre hhead, if_pos]
    have : (pre ++ g :: post).length = 4 := hq ▸ hlen
    simp only [List.length_append, List.length_cons] at this ⊢
    omega
  · exact hstays hlen (withoutAnnounce_of_none h)
  · exact hstays hlen (by rw [ht, hq, withoutAnnounce_sending hpost])
  · rw [hw]
    exact transmitterFollows_between (l := { l with queue := queueAfterWithdrawal l.transmitter p l.queue }) h
  · exact (congrArg Link.transmitter
      (transmitterFollows_busy (l := { l with queue := queueAfterWithdrawal l.transmitter p l.queue }) h)).trans rfl
  · exact ⟨hw.trans (queueAfterWithdrawal_none h),
      queuedNotSending_none fun g hg => h g ((behindSending_sublist _ _).subset hg)⟩
  · rintro ⟨ht, rfl⟩
    have hq' : l.queue = g :: post := hq
    refine ⟨?_, queuedNotSending_none ?_⟩
    · rw [hw, ht, hq', queueAfterWithdrawal_head hpost]
    · rw [ht, hq']
      exact hpost
  · intro hs
    refine ⟨by rw [hw, hq, queueAfterWithdrawal_at hg hpost hs], ?_⟩
    rw [queuedNotSending_eq, hq, List.any_eq_true]
    exact ⟨g, mem_behindSending hs, hg⟩
  · exact beq_iff_eq
  · simp only [isProposeTo, kindPropose, Bool.and_eq_true, beq_iff_eq]

end Sys2Proof.Machine
end

section
/-! SUPPORT. What the reports of the link do at their builders (R92, R113, R176, R178, R179), the link mode's rise to UP (R98, R110,
R140, R142, R173), and the bus reset (R78, R135, R162). Settles O37 and O38. -/

namespace Sys2Proof.Machine

variable {s : State} {f : Frame}

/-! ## The link mode becomes UP -/

theorem isSharer_iff (s : State) : isSharer s = true ↔ s.ret.source = some .externalMemory ∧ (prof s).sharing = true := by
  unfold isSharer
  rw [Bool.and_eq_true, decide_eq_true_iff]

theorem startShare_eq (s : State) : startShare s = { s with
    comm := { s.comm with
      share := if s.ret.source = some .externalMemory ∧ (prof s).sharing = true then some 0 else s.comm.share } } := by
  unfold startShare
  simp only [isSharer_iff]
  split_ifs <;> rfl

/-- The readiness test can set the bond state and the engaged number, and nothing else. -/
theorem readinessTest_frame (s : State) :
    readinessTest s = setBondState (readinessTest s).ret.bondState (readinessTest s).ret.engaged s := by
  rcases readinessTest_cases s with h | ⟨-, -, -, -, k, -, h⟩ <;> rw [h] <;> rfl

/-- The link mode UP with the two timers of its entry, before the readiness test (R98, R110, R142). -/
def upState (s : State) : State := { s with
  link := { s.link with mode := .up }
  fp := { s.fp with announceTimer := some (s.comm.held.getD 0 * 37 % ((prof s).announceInterval * 1000)) }
  bond := { s.bond with proposalTimer := some (s.comm.held.getD 0 * 53 % ((prof s).proposalInterval * 1000)) } }

theorem linkUp_eq (s : State) : linkUp s =
    { setBondState (readinessTest (upState s)).ret.bondState (readinessTest (upState s)).ret.engaged (upState s) with
      comm := { s.comm with
        share := if s.ret.source = some .externalMemory ∧ (prof s).sharing = true then some 0 else s.comm.share } } := by
  show startShare (readinessTest (upState s)) = _
  rw [startShare_eq, readinessTest_frame]
  rfl

/-- The bond state the readiness test of an entry to UP leaves (R140). -/
theorem upState_readiness (s : State) :
    (s.ret.bondState = .unready → recordComplete s.grade = true → s.ret.activity = .active →
        ∀ k, s.grade.gradeClass = some k → readinessTest (upState s) =
          setBondState (if k = .x then .rejected else .free) none (upState s))
      ∧ (s.ret.bondState ≠ .unready ∨ recordComplete s.grade = false ∨ s.ret.activity = .dormant →
        readinessTest (upState s) = upState s) := by
  refine ⟨fun hb hc ha k hk => readinessTest_ready (s := upState s) hb hc rfl ha hk, fun h => readinessTest_of_not ?_⟩
  rcases h with h | h | h
  · exact .inl h
  · exact .inr (.inl h)
  · exact .inr (.inr (.inr fun ha => absurd (ha.symm.trans h) (by decide)))

theorem becomeNumbered_eq {n : Nat} {m : NumberMethod} (hn : s.comm.numbering = some .claiming) (hc : s.comm.claim = some n)
    (hm : s.comm.method = some m) : becomeNumbered s = linkUp
      ((s.setComm { s.comm with state := .ready, numbering := some .numbered, held := some n, claim := none }).setRet
        { s.ret with number := some ⟨n, m⟩ }) := by
  unfold becomeNumbered
  rw [hn, hc, hm]
  rfl

/-! ## The reports to the builders -/

theorem isEnum_iff : isEnum f = true ↔ f.kind = 0x01#8 := beq_iff_eq

theorem reportDropped_other (h : s.comm.numbering ≠ some .claiming ∨ f.kind ≠ 0x01#8) : reportDropped f s = s := by
  unfold reportDropped
  refine if_neg fun ⟨hf, hn⟩ => ?_
  rcases h with h | h
  · exact h hn
  · exact h (isEnum_iff.1 hf)

theorem reportDropped_chained (hn : s.comm.numbering = some .claiming) (hf : f.kind = 0x01#8)
    (hm : s.comm.method = some .chained) : reportDropped f s = enterQuietWait s := by
  unfold reportDropped
  rw [if_pos ⟨isEnum_iff.2 hf, hn⟩, hm]

/-- A FIXED or RETAINED claim is offered again (R176). -/
theorem reportDropped_held {n : Nat} {m : NumberMethod} (hn : s.comm.numbering = some .claiming) (hf : f.kind = 0x01#8)
    (hm : s.comm.method = some m) (hheld : m ≠ .chained) (hc : s.comm.claim = some n) :
    reportDropped f s = offer (enumFrame n n m) s := by
  unfold reportDropped
  rw [if_pos ⟨isEnum_iff.2 hf, hn⟩, hm, hc]
  cases m with
  | chained => exact absurd rfl hheld
  | fixed => rfl
  | retained => rfl

theorem reportSent_other (he : f.kind ≠ 0x01#8) (ha : f.kind ≠ 0x02#8) : reportSent f s = s := by
  unfold reportSent
  rw [if_neg fun h : (f.kind == kindAnnounce) = true => ha (beq_iff_eq.1 h), if_neg fun h => he (isEnum_iff.1 h)]

theorem reportSent_announce (ha : f.kind = 0x02#8) : reportSent f s = announceSent (announceFlags f) s :=
  if_pos (beq_iff_eq.2 ha)

theorem reportSent_enum (he : f.kind = 0x01#8) : reportSent f s = becomeNumbered s := by
  unfold reportSent
  rw [if_neg fun h : (f.kind == kindAnnounce) = true => absurd (he.symm.trans (beq_iff_eq.1 h)) (by decide),
    if_pos (isEnum_iff.2 he)]

/-- A sticky mark that a completed ANNOUNCE carried is cleared unless its new mark stands. -/
theorem stickyAfter_iff (x carried anew : Bool) :
    (x && !(carried && !anew)) = true ↔ x = true ∧ (carried = false ∨ anew = true) := by
  cases x <;> cases carried <;> cases anew <;> decide

theorem coldAfter_iff (x carried : Bool) : (x && !carried) = true ↔ x = true ∧ carried = false := by
  cases x <;> cases carried <;> decide

/-! ## The attempt ends -/

/-- The link after an attempt that takes its frame with it (R91 to R93). -/
def attemptOver (fault : Bool) (bits : List Bool) (s : State) : Link := { (sampled bits s).link with
  queue := s.link.queue.tail
  lineFault := fault
  attempt := none
  transmitter := if (prof s).holdoff = 0 then (if s.link.queue.tail = [] then .idle else .wait) else .holdoff
  holdoff := if (prof s).holdoff = 0 then none else some (prof s).holdoff }

/-- The state after such an attempt, before the report to the frame's builder. -/
def attemptEnded (fault : Bool) (bits : List Bool) (s : State) : State := (sampled bits s).setLink (attemptOver fault bits s)

theorem startHoldoff_over (fault : Bool) (bits : List Bool) (s : State) :
    startHoldoff (prof (sampled bits s)).holdoff { dropHead (sampled bits s).link with lineFault := fault } =
      attemptOver fault bits s := by
  have hq := congrArg List.tail (sampled_queue bits s)
  rw [startHoldoff_eq _ (q := s.link.queue.tail) hq, attemptOver, ← hq]
  rfl

theorem faultAttempt_of {bits : List Bool} (f : Frame) (h : s.link.queue.head? = some f) :
    faultAttempt (sampled bits s) = reportDropped f (attemptEnded true bits s) := by
  unfold faultAttempt
  rw [startHoldoff_over, sampled_queue]
  cases hq : s.link.queue with
  | nil => rw [hq] at h; exact absurd h (by simp)
  | cons g rest =>
    rw [hq] at h
    rw [Option.some.inj h]
    rfl

theorem faultAttempt_empty {bits : List Bool} (h : s.link.queue.head? = none) :
    faultAttempt (sampled bits s) = attemptEnded true bits s := by
  unfold faultAttempt
  rw [startHoldoff_over, sampled_queue, List.head?_eq_none_iff.1 h]
  rfl

theorem completeAttempt_of {bits : List Bool} {a : Attempt} (ha : (sampled bits s).link.attempt = some a) :
    completeAttempt (sampled bits s) = reportSent a.frame (attemptEnded false bits s) := by
  unfold completeAttempt
  rw [startHoldoff_over, ha]
  rfl

/-- Settles O37: the holdoff by `startHoldoff`, then the report to the frame's builder. -/
theorem attemptEnds : Obligations.AttemptEnds := by
  unfold Obligations.AttemptEnds
  intro bits s hr ht a ha u waiting ended
  refine ⟨fun ho => ?_, fun ho => ?_, fun hon hnone => ⟨fun he => ?_, fun b he => ?_⟩⟩
  · have hexec : exec (.transmitLineFault bits) s = .next (settle (faultAttempt u)) := lineStep_of hr (outcomeIs_of ht ha ho)
    rw [hexec]
    refine ⟨fun h => ?_, fun hn f hf hk n hc => ?_⟩
    · cases hhead : s.link.queue.head? with
      | none => rw [faultAttempt_empty hhead]; rfl
      | some f =>
        rw [faultAttempt_of f hhead, reportDropped_other (s := attemptEnded true bits s) (h.imp_right fun h => h f hhead)]
        rfl
    · rw [faultAttempt_of f hf]
      refine ⟨fun hm => ?_, fun hm => ?_, fun hm => ?_⟩
      · rw [reportDropped_chained (s := attemptEnded true bits s) hn hk hm]; rfl
      · rw [reportDropped_held (s := attemptEnded true bits s) hn hk hm (by decide) hc]; rfl
      · rw [reportDropped_held (s := attemptEnded true bits s) hn hk hm (by decide) hc]; rfl
  · have hexec : exec (.attemptComplete bits) s = .next (settle (completeAttempt u)) := lineStep_of hr (outcomeIs_of ht ha ho)
    rw [hexec, completeAttempt_of ha]
    refine ⟨fun he hna => ?_, fun hk => ?_, fun hk hn n hc m hm => ?_⟩
    · rw [reportSent_other he hna]; rfl
    · have hlink := sampleBits_frame s.comm.held (bitsPerSecond (prof s).bitRateCode) bits s.link
      obtain ⟨-, -, -, -, -, hover, hnew, -⟩ := hlink
      refine ⟨_, rfl, ?_⟩
      rw [reportSent_announce hk]
      refine ⟨rfl, stickyAfter_iff _ _ _, ?_, coldAfter_iff _ _, rfl, rfl, rfl, rfl, rfl⟩
      rw [← hover, ← hnew]
      exact stickyAfter_iff _ _ _
    · refine ⟨_, rfl, ?_⟩
      rw [reportSent_enum hk, becomeNumbered_eq (s := attemptEnded false bits s) hn hc hm, linkUp_eq]
      obtain ⟨hready, hnot⟩ := upState_readiness
        (((attemptEnded false bits s).setComm
          { s.comm with state := .ready, numbering := some .numbered, held := some n, claim := none }).setRet
            { s.ret with number := some ⟨n, m⟩ })
      refine ⟨rfl, rfl, rfl, rfl, rfl, rfl, rfl, fun hb hcomp hact k hk' => ?_, fun hb h => ?_, fun hb => ?_, rfl, rfl, rfl⟩
      · exact (congrArg (fun t : State => t.ret.bondState) (hready hb hcomp hact k hk')).trans rfl
      · exact (congrArg (fun t : State => t.ret.bondState) (hnot (.inr h))).trans hb
      · exact (congrArg (fun t : State => t.ret.bondState) (hnot (.inl hb))).trans rfl
  · rw [sampled_append_attempt hon ha, attemptBit_reads hnone he, if_neg (by decide), if_neg (by decide)]
  · rw [sampled_append_attempt hon ha, attemptBit_reads hnone he, if_pos rfl]

/-! ## The bus reset -/

/-- A fold whose step acts once and then stands. -/
theorem foldl_once {α β : Type} {g : β → α → β} {t t' : β} {P : α → Prop} (hskip : ∀ f, ¬ P f → g t f = t)
    (hhit : ∀ f, P f → g t f = t') (hfix : ∀ f, g t' f = t') : ∀ q : List α, (∃ f ∈ q, P f) → q.foldl g t = t'
  | [], ⟨_, h, _⟩ => absurd h List.not_mem_nil
  | x :: q, ⟨f, hf, hp⟩ => by
    rw [List.foldl_cons]
    by_cases hx : P x
    · rw [hhit x hx]
      exact List.foldl_fixed' hfix q
    · rw [hskip x hx]
      rcases List.mem_cons.1 hf with rfl | hq
      · exact absurd hp hx
      · exact foldl_once hskip hhit hfix q ⟨f, hq, hp⟩

theorem withdrawFrame_empty {l : Link} (p : Frame → Bool) (hq : l.queue = []) (ht : l.transmitter = .idle) :
    withdrawFrame l p = l := by
  rw [withdrawFrame_eq, queueAfterWithdrawal_none fun g hg => absurd (hq ▸ hg) List.not_mem_nil]
  show transmitterFollows l = l
  unfold transmitterFollows
  rw [ht]
  exact if_pos hq

theorem withdrawPropose_empty (hq : s.link.queue = []) (ht : s.link.transmitter = .idle) : withdrawPropose s = s := by
  rcases withdrawPropose_cases s with h | ⟨n, -, -, -, h⟩
  · exact h
  · rw [h, withdrawFrame_empty _ hq ht]
    rfl

/-- The first frame into an empty queue. -/
theorem offerFrame_empty {l : Link} (hq : l.queue = []) (ht : l.transmitter = .idle ∨ l.transmitter = .wait)
    (hm : modePermits l.mode f = true) : offerFrame l f = { l with queue := [f], transmitter := .wait } := by
  have hd : duplicateOf l.queue f = false := by simp [hq, duplicateOf]
  have hroom : l.queue.length < 4 := by rw [hq]; decide
  have hafter : queueAfterOffer l f = [f] := by rw [queueAfterOffer_room hm hd hroom, hq]; rfl
  unfold offerFrame
  rw [hafter, transmitterFollows_frame, transmitterFollows_between (l := { l with queue := [f] }) ht]
  rfl

/-- A second ENUM is not added, and nothing follows (R95). -/
theorem offerFrame_same {l : Link} (hd : duplicateOf l.queue f = true) (hq : l.queue ≠ []) (ht : l.transmitter = .wait) :
    offerFrame l f = l := by
  unfold offerFrame
  rw [queueAfterOffer_second hd]
  show transmitterFollows l = l
  unfold transmitterFollows
  rw [ht]
  exact if_neg hq

/-- The link, the table and the bond engine at a bus reset (R78, R135, R162). -/
theorem resetBond_eq (hq : s.link.queue = []) (ht : s.link.transmitter = .idle) : resetBond s =
    if s.ret.bondState = .proposing ∨ s.ret.bondState = .held then unengaged .free s else s := by
  have hdis : disengage .free s = unengaged .free s := by rw [disengage_eq, withdrawPropose_empty hq ht]
  unfold resetBond
  cases hb : s.ret.bondState <;> simp [hdis]

/-- Settles O38: the two due marks, then the reset with the reports of the frames it removed. -/
theorem dominantRunEvents : Obligations.DominantRunEvents := by
  unfold Obligations.DominantRunEvents
  intro bits s hr u cleared atRest
  have hbit : s.link.receiver.state ≠ .off → (sampled [false] s).link =
      sampleBit s.comm.held (bitsPerSecond (prof s).bitRateCode) s.link false := fun _ => rfl
  have hcount : (countBit s.link.receiver false).dominantRun = s.link.receiver.dominantRun + 1 := rfl
  have hexec : u.link.resetDue = true →
      exec (.busReset bits) s = .next (settle (s.link.queue.foldl (fun t f => reportDropped f t) atRest)) := fun hdue => by
    have hqueue : u.link.queue = s.link.queue := sampled_queue bits s
    have hrest : resetBond cleared = atRest := resetBond_eq rfl rfl
    refine (lineStep_of (shown := fun s => s.link.resetDue) hr hdue).trans ?_
    show Host.Outcome.next (settle (u.link.queue.foldl (fun t f => reportDropped f t) (resetBond cleared))) = _
    rw [hqueue, hrest]
  have hcomm : atRest.comm = s.comm := by
    show State.comm (ite _ _ _) = _
    split_ifs <;> rfl
  have hlink : atRest.link = cleared.link := by
    show State.link (ite _ _ _) = _
    split_ifs <;> rfl
  have hstuck : exec (.stuckDominantLine bits) s = lineStep bits (fun s => s.link.stuckDue)
      (fun s => s.setLink { s.link with lineFault := true, stuckDue := false }) s := rfl
  refine ⟨fun hon => ⟨fun h => ?_, fun h => ?_⟩, fun h => hstuck.trans (lineStep_of hr h),
    fun h => hstuck.trans (lineStep_not hr h),
    fun h => lineStep_not (shown := fun s => s.link.resetDue) hr h,
    fun h hno => ?_, fun h hn hex hmode n hc => ?_⟩
  · rw [hbit hon, sampleBit_on _ _ _ hon, hcount, h]
    exact Bool.or_true _
  · rw [hbit hon, sampleBit_on _ _ _ hon, hcount, h]
    show (_ || decide (_ = _)) = true
    rw [decide_eq_true rfl, Bool.or_true]
  · rw [hexec h]
    refine congrArg (fun t => Host.Outcome.next (settle t)) ?_
    refine List.foldlRecOn (motive := fun t => t = atRest) _ _ rfl fun t ht f hf => ?_
    rw [ht]
    exact reportDropped_other (by rw [hcomm]; exact hno.imp_right fun h => h f hf)
  · rw [hexec h]
    have hclaim : atRest.comm.numbering = some .claiming := by rw [hcomm]; exact hn
    have hskip : ∀ f : Frame, ¬ f.kind = 0x01#8 → reportDropped f atRest = atRest := fun f hf => reportDropped_other (.inr hf)
    have hoffers : ∀ m : NumberMethod, m ≠ .chained → s.comm.method = some m →
        s.link.queue.foldl (fun t f => reportDropped f t) atRest =
          { atRest with link := { atRest.link with queue := [enumFrame n n m], transmitter := .wait } } := fun m hm hmeth => by
      have hfirst : offer (enumFrame n n m) atRest =
          { atRest with link := { atRest.link with queue := [enumFrame n n m], transmitter := .wait } } := by
        refine congrArg atRest.setLink (offerFrame_empty ?_ ?_ ?_)
        · rw [hlink]
        · rw [hlink]; exact .inl rfl
        · rw [hlink, show cleared.link.mode = .listen from (sampled_mode bits s).trans hmode]
          rfl
      refine foldl_once (P := fun f : Frame => f.kind = 0x01#8) hskip (fun f hf => ?_) (fun f => ?_) _ hex
      · exact (reportDropped_held hclaim hf (by rw [hcomm]; exact hmeth) hm (by rw [hcomm]; exact hc)).trans hfirst
      · by_cases hf : f.kind = 0x01#8
        · have hsame : offerFrame { atRest.link with queue := [enumFrame n n m], transmitter := .wait } (enumFrame n n m) =
              { atRest.link with queue := [enumFrame n n m], transmitter := .wait } :=
            offerFrame_same (by simp [duplicateOf, enumFrame]) (List.cons_ne_nil _ _) rfl
          have hmethod : atRest.comm.method = some m := by rw [hcomm]; exact hmeth
          have hclaimed : atRest.comm.claim = some n := by rw [hcomm]; exact hc
          exact (reportDropped_held (s := { atRest with
            link := { atRest.link with queue := [enumFrame n n m], transmitter := .wait } }) hclaim hf hmethod hm hclaimed).trans
              (congrArg atRest.setLink hsame)
        · exact reportDropped_other (.inr hf)
    refine ⟨fun hm => ?_, fun hm => ?_, fun hm => ?_⟩
    · rw [hoffers _ (by decide) hm]; rfl
    · rw [hoffers _ (by decide) hm]; rfl
    · refine congrArg (fun t => Host.Outcome.next (settle t)) ?_
      rw [foldl_once (P := fun f : Frame => f.kind = 0x01#8) (t' := enterQuietWait atRest) hskip
        (fun f hf => reportDropped_chained hclaim hf (by rw [hcomm]; exact hm))
        (fun f => reportDropped_other (.inl (by show some NumberingState.quietWait ≠ _; decide))) _ hex]
      show atRest.setComm _ = _
      rw [hcomm]
      rfl

end Sys2Proof.Machine
end

section
/-! SUPPORT. Entries of the peer table by their number, after a map, an insertion and a removal (R122 to R125), aging and the marks'
expiry (R131, R133). Settles O41 and O42. -/

namespace Sys2Proof.Machine

variable {s : State} {t : PeerTable}

/-! ## Looking up an entry -/

/-- A map that keeps every number maps the entry that is found. -/
theorem find?_map_number {g : PeerEntry → PeerEntry} (hg : ∀ e, (g e).number = e.number) (l : List PeerEntry) (n : Nat) :
    (l.map g).find? (fun e => e.number == n) = (l.find? (fun e => e.number == n)).map g := by
  rw [List.find?_map]
  have hcomp : (fun e : PeerEntry => e.number == n) ∘ g = fun e => e.number == n := funext fun e => by
    rw [Function.comp_apply, hg]
  rw [hcomp]

theorem find?_insertEntry_other {e : PeerEntry} {n : Nat} (h : e.number ≠ n) (l : List PeerEntry) :
    (insertEntry e l).find? (fun x => x.number == n) = l.find? (fun x => x.number == n) := by
  induction l with
  | nil => simp [insertEntry, h]
  | cons x xs ih =>
    unfold insertEntry
    split_ifs
    · rw [List.find?_cons_of_neg (by simpa using h)]
    · simp only [List.find?_cons, ih]

theorem find?_insertEntry_same {e : PeerEntry} {l : List PeerEntry}
    (h : l.find? (fun x => x.number == e.number) = none) :
    (insertEntry e l).find? (fun x => x.number == e.number) = some e := by
  induction l with
  | nil => simp [insertEntry]
  | cons x xs ih =>
    rw [List.find?_cons] at h
    unfold insertEntry
    cases hx : (x.number == e.number) with
    | true => rw [hx] at h; cases h
    | false =>
      rw [hx] at h
      split_ifs
      · rw [List.find?_cons_of_pos (by simp)]
      · rw [List.find?_cons_of_neg (by rw [hx]; decide), ih h]

theorem find?_withoutEntry (l : List PeerEntry) (n k : Nat) :
    (withoutEntry l n).find? (fun x => x.number == k) = if n = k then none else l.find? (fun x => x.number == k) := by
  unfold withoutEntry
  rw [List.find?_filter]
  split_ifs with h
  · subst h
    exact List.find?_eq_none.2 fun x _ => by simp
  · refine congrArg (fun p => List.find? p l) (funext fun x => ?_)
    by_cases hx : x.number = k
    · simp [hx, Ne.symm h]
    · simp [hx]

/-- An entry set in its place is found, and leaves every other entry that stays. -/
theorem entryOf_insertEntry (e : PeerEntry) (gone : Option Nat) (l : List PeerEntry) (pin : Option Nat)
    (hfree : l.find? (fun x => x.number == e.number) = none)
    (hl : ∀ n, n ≠ e.number → l.find? (fun x => x.number == n) = if gone = some n then none else entryOf t n) :
    entryOf ⟨insertEntry e l, pin⟩ e.number = some e
      ∧ ∀ n, n ≠ e.number → entryOf ⟨insertEntry e l, pin⟩ n = if gone = some n then none else entryOf t n :=
  ⟨find?_insertEntry_same hfree, fun n hn => (find?_insertEntry_other (Ne.symm hn) l).trans (hl n hn)⟩

/-! ## Expiries in the table -/

theorem endMark_due {e : PeerEntry} {m : DeclineMark} (p : Profile) (now : Nat) (hm : e.mark = some m) (h : m.expiry ≤ now) :
    endMark p now e = { e with
      mark := if m.reason = .frozen ∧ e.frozen = true then some ⟨.frozen, now + p.backoff * p.proposalInterval⟩ else none } := by
  unfold endMark
  rw [hm]
  dsimp only
  rw [if_pos h]
  split_ifs <;> rfl

theorem ageDue_iff {n : Nat} {e : PeerEntry} (he : entryOf s.table n = some e) : ageDue n s = true ↔
    e.lastHeard + (prof s).peerAgeLimit * (prof s).announceInterval ≤ s.seconds ∧ s.table.pin ≠ some n := by
  unfold ageDue
  rw [he]
  dsimp only
  rw [Bool.and_eq_true, aged, decide_eq_true_iff, bne_iff_ne]

theorem markDue_iff {n : Nat} {e : PeerEntry} (he : entryOf s.table n = some e) : markDue n s = true ↔
    ∃ m, e.mark = some m ∧ m.expiry ≤ s.seconds := by
  unfold markDue
  rw [he]
  cases hm : e.mark with
  | none => simp [hm]
  | some m => simp [hm]

/-- Settles O41: the removal and the end of a mark, each due by the counter. -/
theorem peerEntriesExpire : Obligations.PeerEntriesExpire := by
  unfold Obligations.PeerEntriesExpire
  intro s n hr e he old anew
  refine ⟨fun hold hpin => ?_, fun h => ?_, fun m hm hdue => ?_, fun h => ?_⟩
  · refine (whenever_of ?_).trans rfl
    rw [hr, (ageDue_iff he).2 ⟨hold, hpin⟩]
    rfl
  · refine whenever_not ?_
    rw [hr, Bool.true_and, Bool.eq_false_iff]
    intro hdue
    obtain ⟨hold, hpin⟩ := (ageDue_iff he).1 hdue
    rcases h with h | h
    · exact h hold
    · exact hpin h
  · have hexec : exec (.declineMarkExpiry n) s = .next (settle (s.setTable { s.table with
        entries := s.table.entries.map (fun e => if e.number = n then endMark (prof s) s.seconds e else e) })) := by
      refine whenever_of ?_
      rw [hr, (markDue_iff he).2 ⟨m, hm, hdue⟩]
      rfl
    have hfind : ∀ k, entryOf (settle (s.setTable { s.table with
          entries := s.table.entries.map (fun e => if e.number = n then endMark (prof s) s.seconds e else e) })).table k =
        (entryOf s.table k).map (fun e => if e.number = n then endMark (prof s) s.seconds e else e) := fun k => by
      rw [settle_table]
      refine find?_map_number (fun x => ?_) _ k
      split_ifs
      · exact endMark_number _ _ x
      · rfl
    refine ⟨_, hexec, ?_, fun k hk => ?_, by rw [settle_table]; rfl, by rw [settle_ret]; rfl, by rw [settle_bond]; rfl,
      by rw [settle_fe]; rfl⟩
    · rw [hfind, he, Option.map_some, if_pos (entryOf_number he), endMark_due _ _ hm hdue]
    · rw [hfind]
      cases hk' : entryOf s.table k with
      | none => rfl
      | some x => rw [Option.map_some, if_neg fun h => hk ((entryOf_number hk').symm.trans h)]
  · refine whenever_not ?_
    rw [hr, Bool.true_and, Bool.eq_false_iff]
    intro hdue
    obtain ⟨m, hm, hle⟩ := (markDue_iff he).1 hdue
    exact absurd hle (Nat.not_le.2 (h m hm))

/-! ## An ANNOUNCE at the table -/

theorem hearAnnounce_update {p : Profile} {own : GradeRecord} {now : Nat} {a : AnnounceFields} {old : PeerEntry}
    (h : entryOf t a.source = some old) : hearAnnounce p own now a t =
      ⟨insertEntry (entryFrom p own now a (markAfterAnnounce old a)) (withoutEntry t.entries a.source), t.pin⟩ := by
  rw [hearAnnounce, h]

theorem hearAnnounce_room {p : Profile} {own : GradeRecord} {now : Nat} {a : AnnounceFields}
    (h : entryOf t a.source = none) (hroom : t.entries.length < 32) :
    hearAnnounce p own now a t = ⟨insertEntry (entryFrom p own now a none) t.entries, t.pin⟩ := by
  rw [hearAnnounce, h]
  exact if_pos hroom

/-- A full table admits the newcomer in the place of its worst unpinned entry, or stands (R125). -/
theorem hearAnnounce_full {p : Profile} {own : GradeRecord} {now : Nat} {a : AnnounceFields} {w : PeerEntry}
    (h : entryOf t a.source = none) (hfull : 32 ≤ t.entries.length) (hw : worstUnpinned t = some w) :
    hearAnnounce p own now a t = if admitted t (entryFrom p own now a none) w = true then
      ⟨insertEntry (entryFrom p own now a none) (withoutEntry t.entries w.number), t.pin⟩ else t := by
  rw [hearAnnounce, h]
  refine (if_neg (Nat.not_lt.2 hfull)).trans ?_
  rw [hw]

theorem hearAnnounce_pin (p : Profile) (own : GradeRecord) (now : Nat) (a : AnnounceFields) (t : PeerTable) :
    (hearAnnounce p own now a t).pin = t.pin := by
  unfold hearAnnounce
  split
  · rfl
  · dsimp only
    split_ifs
    · rfl
    · split
      · split_ifs <;> rfl
      · rfl

/-- The worst unpinned entry is the last one behind which only pinned ones stand. -/
theorem worstUnpinned_of {pre post : List PeerEntry} {w : PeerEntry} (he : t.entries = pre ++ w :: post)
    (hw : t.pin ≠ some w.number) (hpost : ∀ e ∈ post, t.pin = some e.number) : worstUnpinned t = some w := by
  unfold worstUnpinned
  rw [he, List.reverse_append, List.reverse_cons, List.append_assoc, List.find?_append,
    List.find?_eq_none.2 fun e h => by simp [hpost e (List.mem_reverse.1 h)], List.singleton_append,
    List.find?_cons_of_pos (by simpa using hw)]
  rfl

theorem admitted_iff (t : PeerTable) (e worst : PeerEntry) : admitted t e worst = true ↔
    t.pin = some e.number ∨ (e.score.isSome = true ∧ standsAhead e worst = true) := by
  rw [admitted, Bool.or_eq_true, Bool.and_eq_true, beq_iff_eq]

/-- Settles O42: the update, the insertion and the admission, each as an insertion into what stays. -/
theorem announceEntersTable : Obligations.AnnounceEntersTable := by
  unfold Obligations.AnnounceEntersTable
  intro p own now a t u heard enters othersStay
  have hinsert : ∀ (mark : Option DeclineMark) (gone : Option Nat) (l : List PeerEntry),
      l.find? (fun x => x.number == a.source) = none →
      (∀ n, n ≠ a.source → l.find? (fun x => x.number == n) = if gone = some n then none else entryOf t n) →
      u = ⟨insertEntry (entryFrom p own now a mark) l, t.pin⟩ → enters mark ∧ othersStay gone :=
    fun mark gone l hfree hl hu => by
      have h := entryOf_insertEntry (heard mark) gone l t.pin hfree hl
      exact ⟨(congrArg (entryOf · a.source) hu).trans h.1, fun n hn => (congrArg (entryOf · n) hu).trans (h.2 n hn)⟩
  refine ⟨fun e he => ?_, fun hnone hroom => ?_, fun hnone hfull pre w post hsplit hw hpost => ⟨fun h => ?_, fun h => ?_⟩,
    hearAnnounce_pin p own now a t⟩
  · refine hinsert _ none _ ?_ (fun n hn => ?_) (hearAnnounce_update he)
    · rw [find?_withoutEntry, if_pos rfl]
    · rw [find?_withoutEntry, if_neg (Ne.symm hn), if_neg (by simp)]
      rfl
  · exact hinsert none none t.entries hnone (fun n _ => (if_neg (by simp)).symm) (hearAnnounce_room hnone hroom)
  · have hfull' := hearAnnounce_full (p := p) (own := own) (now := now) hnone hfull (worstUnpinned_of hsplit hw hpost)
    rw [if_pos ((admitted_iff _ _ _).2 h)] at hfull'
    refine hinsert none (some w.number) _ ?_ (fun n _ => ?_) hfull'
    · rw [find?_withoutEntry]
      split_ifs
      · rfl
      · exact hnone
    · rw [find?_withoutEntry]
      simp only [Option.some.injEq]
      rfl
  · exact (hearAnnounce_full hnone hfull (worstUnpinned_of hsplit hw hpost)).trans (if_neg (mt (admitted_iff _ _ _).1 h))

end Sys2Proof.Machine
end

section
/-! SUPPORT. The entry to MUTED (R99, R110, R136, R163) and the pins after an event (R170, R177 to R181, R192), the numbering of a
chained node (R177, R178, R181) and the judgement of a closed frame (R82, R83, R86 to R88, R180). Settles O33 and O40. -/

namespace Sys2Proof.Machine

variable {s : State}

/-! ## Pins after an event -/

theorem settle_chainIn (s : State) : (settle s).pins.chainIn = s.pins.chainIn := by rw [settle_pins_eq]

theorem settle_alert_iff (s : State) : (settle s).pins.alert = true ↔ s.supply.state = .run ∧
    (s.comm.state = .failed ∨ s.comm.numbering = some .conflict ∨ s.comm.numbering = some .noNumber
      ∨ s.link.lineFault = true) := by
  obtain ⟨-, -, halert, -, -⟩ := (settle_pinsFollow s).levels
  rw [halert, alertLevel_iff, settle_supply, settle_commState, settle_numbering, settle_lineFault]

theorem settle_chainOut_failed (hr : s.supply.state = .run) (hs : s.comm.state = .failed) :
    (settle s).pins.chainOut = s.pins.chainIn := by
  obtain ⟨hchain, -, -, -, -⟩ := (settle_pinsFollow s).levels
  rw [hchain, chainOutLevel_run (by rw [settle_supply]; exact hr), settle_commState, hs]
  exact settle_chainIn s

theorem settle_chainOut_numbered (hr : s.supply.state = .run) (hs : s.comm.state = .numbering ∨ s.comm.state = .ready) :
    (settle s).pins.chainOut = if s.comm.method = some .chained then chainedOut s.comm.numbering else s.pins.chainIn := by
  obtain ⟨hchain, -, -, -, -⟩ := (settle_pinsFollow s).levels
  rw [hchain, chainOutLevel_numbered (by rw [settle_supply]; exact hr) (by rw [settle_commState]; exact hs), settle_method,
    settle_numbering, settle_chainIn]

/-- Without a broadcast under way the end of an event leaves the link alone. -/
theorem settle_link_idle (h : s.comm.share = none) : (settle s).link = s.link := by rw [settle_link, feedSegment_idle s h]

theorem settle_comm_idle (h : s.comm.share = none) : (settle s).comm = s.comm := by rw [settle_comm, feedSegment_idle s h]

/-! ## The entry to MUTED -/

theorem muteLink_facts (tenths : Nat) (l : Link) : (muteLink tenths l).mode = .muted ∧ (muteLink tenths l).queue = []
    ∧ (muteLink tenths l).fifo = l.fifo := by
  unfold muteLink
  dsimp only
  split_ifs
  · rw [startHoldoff_eq tenths (q := []) rfl]
    exact ⟨rfl, rfl, rfl⟩
  · rw [transmitterFollows_frame]
    exact ⟨rfl, rfl, rfl⟩

/-- The blocks at the entry to MUTED but for the bond engine's exit. -/
def mutedWith (l : Link) (s : State) : State := { s with
  link := l
  fp := { s.fp with announceTimer := none }
  table := { s.table with entries := [] }
  comm := { s.comm with share := none }
  bond := { s.bond with proposalTimer := none } }

theorem withdrawPropose_queue_empty (hq : s.link.queue = []) :
    ∃ t, withdrawPropose s = s.setLink { s.link with transmitter := t } := by
  rcases withdrawPropose_cases s with h | ⟨n, -, -, -, h⟩
  · exact ⟨s.link.transmitter, h⟩
  · refine ⟨(withdrawFrame s.link (isProposeTo n)).transmitter, h.trans (congrArg s.setLink ?_)⟩
    rw [withdrawFrame_frame, withdrawFrame_queue, queueAfterWithdrawal_none fun g hg => absurd (hq ▸ hg) List.not_mem_nil]

theorem mutedWith_setBond (l : Link) (s : State) :
    (mutedWith l s).setBond { (mutedWith l s).bond with proposalTimer := none } = mutedWith l s := rfl

theorem muteBond_frozen (l : Link) (hf : s.ret.freeze = true) : muteBond (mutedWith l s) = mutedWith l s :=
  (if_pos hf).trans (mutedWith_setBond l s)

theorem muteBond_unfrozen (l : Link) (hf : s.ret.freeze = false) :
    muteBond (mutedWith l s) = unengaged .unready (withdrawPropose (mutedWith l s)) := by
  have hdis : muteBond (mutedWith l s) = disengage .unready (mutedWith l s) :=
    (if_neg fun h => Bool.false_ne_true (hf.symm.trans h)).trans (congrArg (disengage .unready) (mutedWith_setBond l s))
  rw [hdis, disengage_eq]

/-- MUTED: an unfrozen engine leaves every engagement, a frozen one stands (R163). -/
theorem enterMuted_eq (s : State) : ∃ l, l.mode = .muted ∧ l.queue = [] ∧ l.fifo = s.link.fifo ∧
    enterMuted s = if s.ret.freeze = true then mutedWith l s else unengaged .unready (mutedWith l s) := by
  obtain ⟨hmode, hqueue, hfifo⟩ := muteLink_facts (prof s).holdoff s.link
  have hmuted : enterMuted s = muteBond (mutedWith (muteLink (prof s).holdoff s.link) s) := rfl
  rw [hmuted]
  generalize muteLink (prof s).holdoff s.link = l at hmode hqueue hfifo
  cases hf : s.ret.freeze with
  | true => exact ⟨l, hmode, hqueue, hfifo, by rw [muteBond_frozen l hf, if_pos rfl]⟩
  | false =>
    obtain ⟨t, ht⟩ := withdrawPropose_queue_empty (s := mutedWith l s) hqueue
    refine ⟨{ l with transmitter := t }, hmode, hqueue, hfifo, ?_⟩
    rw [muteBond_unfrozen l hf, if_neg (by decide), ht]
    rfl

/-- What an entry to MUTED leaves at every block, at the end of its event. -/
theorem settle_enterMuted (s : State) :
    (settle (enterMuted s)).link.mode = .muted ∧ (settle (enterMuted s)).link.queue = []
      ∧ (settle (enterMuted s)).link.fifo = s.link.fifo ∧ (settle (enterMuted s)).fp.announceTimer = none
      ∧ (settle (enterMuted s)).bond.proposalTimer = none ∧ (settle (enterMuted s)).comm = { s.comm with share := none }
      ∧ (settle (enterMuted s)).ret = { s.ret with
          bondState := (settle (enterMuted s)).ret.bondState, engaged := (settle (enterMuted s)).ret.engaged }
      ∧ BondMuted s (settle (enterMuted s)) := by
  obtain ⟨l, hmode, hqueue, hfifo, h⟩ := enterMuted_eq s
  have hcomm : (enterMuted s).comm = { s.comm with share := none } := by rw [h]; split_ifs <;> rfl
  have hlink : (enterMuted s).link = l := by rw [h]; split_ifs <;> rfl
  have hidle : (enterMuted s).comm.share = none := by rw [hcomm]
  rw [settle_link_idle hidle, settle_comm_idle hidle, hlink, hcomm, settle_ret, settle_fp, settle_bond]
  refine ⟨hmode, hqueue, hfifo, ?_, ?_, rfl, ?_, ?_⟩
  · rw [h]; split_ifs <;> rfl
  · rw [h]; split_ifs <;> rfl
  · rw [h]; split_ifs <;> rfl
  · unfold BondMuted
    rw [settle_ret, settle_table, settle_bond, h]
    refine ⟨by split_ifs <;> rfl, fun hf => ?_, fun hf => ?_⟩
    · rw [if_pos hf]
      exact ⟨rfl, rfl, rfl, rfl⟩
    · rw [if_neg (by rw [hf]; decide)]
      exact ⟨rfl, rfl, rfl, rfl⟩

theorem enterMuted_supply (s : State) : (enterMuted s).supply = s.supply := by
  obtain ⟨l, -, -, -, h⟩ := enterMuted_eq s
  rw [h]
  split_ifs <;> rfl

theorem enterMuted_comm (s : State) : (enterMuted s).comm = { s.comm with share := none } := by
  obtain ⟨l, -, -, -, h⟩ := enterMuted_eq s
  rw [h]
  split_ifs <;> rfl

/-- ALERT at an entry to MUTED for the lack of a number. -/
theorem settle_enterMuted_alert (hr : inRun s = true)
    (hn : s.comm.numbering = some .conflict ∨ s.comm.numbering = some .noNumber) :
    (settle (enterMuted s)).pins.alert = true := by
  rw [settle_alert_iff, enterMuted_supply, enterMuted_comm]
  exact ⟨(inRun_iff s).1 hr, .inr (hn.imp id .inl)⟩

/-! ## Chained numbering -/

theorem chainedClaim_claims (h : s.comm.highest < 239) : chainedClaim s =
    offer (enumFrame 0 (s.comm.highest + 1) .chained)
      (s.setComm { s.comm with numbering := some .claiming, quietTimer := none, claim := some (s.comm.highest + 1) }) :=
  if_neg (by omega)

theorem chainedClaim_without (h : 239 ≤ s.comm.highest) : chainedClaim s =
    enterMuted (s.setComm { s.comm with
      state := .ready, numbering := some .noNumber, quietTimer := none, claim := none }) := if_pos (by omega)

/-- A node that passes CHAIN-IN on shows it at CHAIN-OUT (R170, R176). -/
theorem settle_passes_chain (hr : s.supply.state = .run) (h : s.comm.state = .failed ∨
      ((s.comm.state = .numbering ∨ s.comm.state = .ready) ∧ (s.comm.method = some .fixed ∨ s.comm.method = some .retained))) :
    (settle s).pins.chainOut = s.pins.chainIn := by
  rcases h with h | ⟨h, hm⟩
  · exact settle_chainOut_failed hr h
  · rw [settle_chainOut_numbered hr h]
    refine if_neg ?_
    rcases hm with hm | hm <;> rw [hm] <;> decide

/-- Settles O33: the pin's two levels, and the quiet timer by the highest number heard. -/
theorem chainedNodesNumber : Obligations.ChainedNodesNumber := by
  unfold Obligations.ChainedNodesNumber
  intro s chained
  have hactive : exec .chainInActive s =
      .next (settle (if waitsForChain (chained true) = true then enterQuietWait (chained true) else chained true)) := rfl
  have hwaits : waitsForChain (chained true) = true ↔ inRun s = true ∧ s.comm.numbering = some .chainWait := by
    rw [waitsForChain, Bool.and_eq_true, decide_eq_true_iff]
    exact Iff.rfl
  have hquiet : inRun s = true → s.comm.quietTimer.isSome = true → s.comm.numbering = some .quietWait →
      exec .quietTimerExpiry s = .next (settle (chainedClaim s)) := fun hr ht hn => whenever_of (by rw [hr, ht, hn]; rfl)
  refine ⟨fun hr hn => ?_, fun h => ?_, rfl, fun hr h _ => ⟨?_, ?_⟩, fun hr ht hn hlow => ?_, fun hr ht hn hhigh => ?_,
    fun h => whenever_not (by rw [h]; cases inRun s <;> rfl)⟩
  · rw [hactive, if_pos (hwaits.2 ⟨hr, hn⟩)]
    rfl
  · rw [hactive, if_neg fun hw => ?_]
    obtain ⟨hr, hn⟩ := hwaits.1 hw
    rcases h with h | h
    · exact Bool.false_ne_true (h.symm.trans hr)
    · exact h hn
  · exact settle_passes_chain (s := chained true) ((inRun_iff s).1 hr) h
  · exact settle_passes_chain (s := chained false) ((inRun_iff s).1 hr) h
  · rw [hquiet hr ht hn, chainedClaim_claims hlow]
    rfl
  · have hexec := hquiet hr ht hn
    rw [chainedClaim_without hhigh] at hexec
    obtain ⟨hmode, hqueue, -, htimer, hprop, hcomm, hret, hbond⟩ := settle_enterMuted (s.setComm { s.comm with
      state := .ready, numbering := some .noNumber, quietTimer := none, claim := none })
    obtain ⟨hentries, -, -⟩ := id hbond
    refine ⟨_, hexec, ?_, ?_, ?_, ?_, ?_, hmode, hqueue, htimer, hentries, hprop,
      settle_enterMuted_alert (s := s.setComm { s.comm with
        state := .ready, numbering := some .noNumber, quietTimer := none, claim := none }) hr (.inr rfl), ?_, ?_, ?_,
      hbond, fun hm => ?_⟩
    · exact congrArg Commissioning.state hcomm
    · exact congrArg Commissioning.numbering hcomm
    · exact congrArg Commissioning.quietTimer hcomm
    · exact (congrArg Commissioning.held hcomm).trans rfl
    · exact (congrArg Retained.number hret).trans rfl
    · exact (congrArg Retained.inForce hret).trans rfl
    · exact (congrArg Retained.charge hret).trans rfl
    · exact (congrArg Retained.grade hret).trans rfl
    · rw [settle_chainOut_numbered (by rw [enterMuted_supply]; exact (inRun_iff s).1 hr) (.inr (congrArg Commissioning.state (enterMuted_comm _))),
        enterMuted_comm]
      exact if_pos hm

/-! ## The judgement of a closed frame -/

/-- What R82 and R83 ask of a closed frame's content. -/
def GoodBits (bits : List Bool) : Prop :=
  40 ≤ bits.length ∧ bits.length % 8 = 0 ∧ bits.length ≤ 360 ∧ crc (bitsBytes (bits.length / 8) bits) = 0#16

theorem goodContent_of {bits : List Bool} (h : GoodBits bits) : goodContent bits = some (bitsBytes (bits.length / 8) bits) := by
  obtain ⟨hlow, hwhole, hhigh, hcrc⟩ := h
  unfold goodContent
  rw [if_neg (by omega)]
  exact if_pos hcrc

theorem goodContent_not {bits : List Bool} (h : ¬ GoodBits bits) : goodContent bits = none := by
  unfold goodContent
  split_ifs with hlen
  · rfl
  · refine if_neg fun hcrc => h ⟨?_, ?_, ?_, hcrc⟩ <;> omega

theorem sourcePasses_iff (f : Frame) : sourcePasses f = true ↔
    f.src ≠ 0xFF#8 ∧ (f.src ≠ 0x00#8 ∨ f.kind = 0x01#8 ∨ f.kind = 0x0B#8) := by
  simp only [sourcePasses, kindEnum, kindProfile, Bool.and_eq_true, Bool.or_eq_true, bne_iff_ne, beq_iff_eq, or_assoc]

theorem numberConflict_taken (h : s.comm.numbering = some .numbered
    ∨ (s.comm.numbering = some .claiming ∧ (s.comm.method = some .fixed ∨ s.comm.method = some .retained))) :
    numberConflict s =
      enterMuted (s.setComm { s.comm with state := .ready, numbering := some .conflict, quietTimer := none }) := by
  refine if_pos ?_
  unfold takesConflict
  rcases h with h | ⟨h, hm⟩
  · rw [h]
  · rw [h]
    exact decide_eq_true hm

theorem numberConflict_ignored (h : s.comm.numbering = some .conflict ∨ s.comm.numbering = some .noNumber) :
    numberConflict s = s := by
  refine if_neg ?_
  unfold takesConflict
  rcases h with h | h <;> rw [h] <;> exact Bool.false_ne_true

theorem judgeClosed_good {c : ClosedFrame} {rest : List ClosedFrame} (hc : s.link.closed = c :: rest)
    (h : GoodBits c.content) : judgeClosed s =
      judgeFrame c.own (bitsBytes (c.content.length / 8) c.content) (s.setLink { s.link with closed := rest }) := by
  unfold judgeClosed
  rw [hc]
  dsimp only
  rw [goodContent_of h]

theorem judgeClosed_bad {c : ClosedFrame} {rest : List ClosedFrame} (hc : s.link.closed = c :: rest)
    (h : ¬ GoodBits c.content) : judgeClosed s = s.setLink { s.link with closed := rest } := by
  unfold judgeClosed
  rw [hc]
  dsimp only
  rw [goodContent_not h]

theorem judgeFrame_conflict {content : List Byte} (hheld : s.comm.held = some (frameOf content).src.toNat) :
    judgeFrame false content s = numberConflict s := by
  rw [judgeFrame, if_neg Bool.false_ne_true, if_pos hheld]

theorem judgeFrame_foreign {content : List Byte} (hheld : s.comm.held ≠ some (frameOf content).src.toNat) :
    judgeFrame false content s =
      if sourcePasses (frameOf content) = true then s.setLink (offerFifo s.link content) else s := by
  rw [judgeFrame, if_neg Bool.false_ne_true, if_neg hheld]

/-- Settles O40: the tests of R82, R83 and R86 in their order. -/
theorem frameReceivedIsJudged : Obligations.FrameReceivedIsJudged := by
  unfold Obligations.FrameReceivedIsJudged
  intro bits s hr c rest hclosed u v content good src kind fits
  have hjudge : exec (.frameReceived bits) s = .next (settle (judgeClosed u)) := by
    have hshown : (!u.link.closed.isEmpty) = true := by rw [hclosed]; rfl
    exact lineStep_of (shown := fun s => !s.link.closed.isEmpty) hr hshown
  have hgood : good → exec (.frameReceived bits) s = .next (settle (judgeFrame c.own content v)) := fun h => by
    rw [hjudge, judgeClosed_good hclosed h]
    rfl
  have hforeign : good → c.own = false → s.comm.held ≠ some src.toNat → exec (.frameReceived bits) s = .next (settle
      (if sourcePasses (frameOf content) = true then v.setLink (offerFifo v.link content) else v)) := fun h hown hheld => by
    rw [hgood h, hown, judgeFrame_foreign (s := v) (content := content) hheld]
  have hown : good → c.own = false → s.comm.held = some src.toNat →
      exec (.frameReceived bits) s = .next (settle (numberConflict v)) := fun h hown hheld => by
    rw [hgood h, hown, judgeFrame_conflict (s := v) (content := content) hheld]
  have hfits : sourcePasses (frameOf content) = true ↔ fits := sourcePasses_iff (frameOf content)
  have hfifo : v.link.fifo = s.link.fifo := sampled_fifo bits s
  refine ⟨fun h => ?_, fun h ho hh hn => ?_, fun h ho hh hn => ?_, fun h ho hh hno => ?_, fun h ho hh hf hroom => ?_,
    fun h ho hh hf hfull => ?_⟩
  · by_cases hg : good
    · rw [hgood hg, judgeFrame, if_pos (h.resolve_left (not_not_intro hg))]
    · rw [hjudge, judgeClosed_bad hclosed hg]
      rfl
  · have hexec := hown h ho hh
    rw [numberConflict_taken (s := v) hn] at hexec
    obtain ⟨hmode, hqueue, hfifo', htimer, -, hcomm, hret, hbond⟩ := settle_enterMuted (v.setComm { s.comm with
      state := .ready, numbering := some .conflict, quietTimer := none })
    obtain ⟨hentries, -, hfree⟩ := id hbond
    refine ⟨_, hexec, ?_, ?_, ?_, ?_, hmode, hqueue, hfifo'.trans hfifo,
      settle_enterMuted_alert (s := v.setComm { s.comm with
        state := .ready, numbering := some .conflict, quietTimer := none }) hr (.inl rfl), hentries, htimer, fun hf => ?_, hbond⟩
    · exact congrArg Commissioning.state hcomm
    · exact congrArg Commissioning.numbering hcomm
    · exact (congrArg Commissioning.held hcomm).trans rfl
    · exact (congrArg Retained.number hret).trans rfl
    · obtain ⟨hb, he, -, -⟩ := hfree hf
      exact ⟨hb, he⟩
  · rw [hown h ho hh, numberConflict_ignored (s := v) hn]
  · rw [hforeign h ho hh, if_neg (mt hfits.1 hno)]
  · rw [hforeign h ho hh, if_pos (hfits.2 hf), offerFifo, if_pos (hfifo ▸ hroom), hfifo]
    rfl
  · rw [hforeign h ho hh, if_pos (hfits.2 hf), offerFifo, if_neg (Nat.not_lt.2 (hfifo ▸ hfull))]
    rfl

end Sys2Proof.Machine
end

section
/-! SUPPORT. The receiver bit by bit (R77, R81, R82, R84, R85): what opens and aborts a frame.
Settles O39. -/

namespace Sys2Proof.Machine

variable {held : Option Nat} {r r' r'' : Receiver} {s : State}

/-! ## One bit -/

theorem receiverBit_hunt (b : Bool) (h : r.state = .hunt) : receiverBit held r b = (huntBit r b, none) := by
  rw [receiverBit, h]

theorem receiverBit_frame (b : Bool) (h : r.state = .receiving ∨ r.state = .skipping) :
    receiverBit held r b = frameBit held (countBit r b) b := by
  rcases h with h | h <;> rw [receiverBit, h]

theorem countBit_true (r : Receiver) : countBit r true = { r with recessiveRun := r.recessiveRun + 1, dominantRun := 0 } := rfl

theorem countBit_false (r : Receiver) : countBit r false = { r with recessiveRun := 0, dominantRun := r.dominantRun + 1 } := rfl

/-- A bit within a run of less than six is taken as content (R81). -/
theorem frameBit_content (b : Bool) (h : r.stuffRun ≤ 5) : frameBit held r b =
    (takeContentBit held { r with
      stuffRun := nextRun r.stuffRun r.stuffBit b
      stuffBit := b
      runStuffed := if 0 < r.stuffRun ∧ b = r.stuffBit then r.runStuffed else false } b, none) := by
  unfold frameBit nextRun
  rw [if_neg (by omega), if_neg (by omega)]
  by_cases hsame : 0 < r.stuffRun ∧ b = r.stuffBit
  · simp only [if_pos hsame]
    rw [hsame.2]
  · simp only [if_neg hsame]

/-- The bit after a run of six, of the other value, is no content (R81). -/
theorem frameBit_stuff (h : r.stuffRun = 6) :
    frameBit held r (!r.stuffBit) = ({ r with stuffRun := 1, stuffBit := !r.stuffBit, runStuffed := true }, none) := by
  unfold frameBit
  rw [if_neg (by omega), if_pos h, if_pos (by simp)]

/-- The seventh recessive bit of a run is held back: it may belong to a delimiter (R81). -/
theorem frameBit_seventh (h : r.stuffRun = 6) (hb : r.stuffBit = true) :
    frameBit held r true = ({ r with stuffRun := 7 }, none) := by
  unfold frameBit
  rw [if_neg (by omega), if_pos h, if_neg (by simp [hb]), if_pos rfl]

/-- The seventh dominant bit of a run aborts (R81). -/
theorem frameBit_dominant (h : r.stuffRun = 6) (hb : r.stuffBit = false) : frameBit held r false = (huntAgain r, none) := by
  unfold frameBit
  rw [if_neg (by omega), if_pos h, if_neg (by simp [hb]), if_neg Bool.false_ne_true]

theorem frameBit_after_seven (b : Bool) (h : r.stuffRun = 7) : frameBit held r b =
    (huntAgain r, if b = false ∧ r.state = .receiving then some (withdrawDelimiter r) else none) := if_pos h

/-- The 368th content bit aborts (R82). -/
theorem takeContentBit_tooLong (b : Bool) (hs : r.state = .receiving) (hl : r.assembly.length = 367) :
    takeContentBit held r b = huntAgain r := by
  have hlen : (r.assembly ++ [b]).length = 368 := by simp [hl]
  unfold takeContentBit
  rw [if_neg (by rw [hs]; decide)]
  dsimp only
  rw [if_neg (by omega), if_pos (by rw [hlen]; decide)]

theorem frameBit_tooLong (b : Bool) (hs : r.state = .receiving) (hrun : r.stuffRun ≤ 5) (hl : r.assembly.length = 367) :
    ∃ r', frameBit held r b = (huntAgain r', none) := by
  rw [frameBit_content b hrun, takeContentBit_tooLong (r := { r with
    stuffRun := nextRun r.stuffRun r.stuffBit b
    stuffBit := b
    runStuffed := if 0 < r.stuffRun ∧ b = r.stuffBit then r.runStuffed else false }) b hs hl]
  exact ⟨_, rfl⟩

/-! ## The commands of the receiver -/

theorem receiverAfter_hunting (h : (receiverBit held r b).1 = huntAgain r') :
    (receiverAfter held r b).state = .hunt ∧ (receiverAfter held r b).assembly = [] := by
  unfold receiverAfter
  split_ifs
  · exact ⟨rfl, rfl⟩
  · rw [h]
    exact ⟨rfl, rfl⟩

theorem receiverAfter_below {b : Bool} (h : (receiverBit held r b).1.dominantRun ≠ 64) :
    receiverAfter held r b = (receiverBit held r b).1 := if_neg h

/-- What a bit that closes no frame leaves alone. -/
theorem sampled_append_quiet {earlier : List Bool} {b : Bool} (hon : (sampled earlier s).link.receiver.state ≠ .off)
    (hquiet : (receiverBit s.comm.held (sampled earlier s).link.receiver b).2 = none) :
    (sampled (earlier ++ [b]) s).link.receiver = receiverAfter s.comm.held (sampled earlier s).link.receiver b
      ∧ (sampled (earlier ++ [b]) s).link.closed = (sampled earlier s).link.closed := by
  rw [sampled_append_one, sampleBit_on _ _ b hon, hquiet]
  exact ⟨rfl, List.append_nil _⟩

theorem exec_openingDelimiter (bits : List Bool) (hr : inRun s = true) :
    exec (.openingDelimiter bits) s = .next (settle (sampled bits s)) := lineStep_of (shown := fun _ => true) (effect := fun s => s) hr rfl

theorem exec_receiveAbort (bits : List Bool) (hr : inRun s = true) :
    exec (.receiveAbort bits) s = .next (settle (sampled bits s)) := lineStep_of (shown := fun _ => true) (effect := fun s => s) hr rfl

/-- What the bits and the end of the event leave alone. -/
theorem settle_sampled (bits : List Bool) (s : State) :
    (settle (sampled bits s)).ret = s.ret ∧ (settle (sampled bits s)).fe = s.fe ∧ (settle (sampled bits s)).table = s.table
      ∧ (settle (sampled bits s)).bond = s.bond ∧ (settle (sampled bits s)).link.fifo = s.link.fifo
      ∧ (settle (sampled bits s)).link.overrunFlag = s.link.overrunFlag
      ∧ (settle (sampled bits s)).link.lineFault = s.link.lineFault := by
  obtain ⟨-, hfifo, -, -, hfault, hover, -, -⟩ :=
    sampleBits_frame s.comm.held (bitsPerSecond (prof s).bitRateCode) bits s.link
  rw [settle_ret, settle_fe, settle_table, settle_bond, settle_fifo, settle_overrunFlag, settle_lineFault]
  exact ⟨rfl, rfl, rfl, rfl, hfifo, hover, hfault⟩

/-- Settles O39: each event is one bit at the receiver. -/
theorem receiverEvents : Obligations.ReceiverEvents := by
  unfold Obligations.ReceiverEvents
  intro s hr earlier u r same aborts
  have hsame : ∀ b, r.state ≠ .off → (receiverBit s.comm.held r b).2 = none →
      (settle (sampled (earlier ++ [b]) s)).link.receiver = receiverAfter s.comm.held r b
        ∧ same (settle (sampled (earlier ++ [b]) s)) := fun b hon hquiet => by
    obtain ⟨hrec, hclosed⟩ := sampled_append_quiet hon hquiet
    obtain ⟨h1, h2, h3, h4, h5, h6, h7⟩ := settle_sampled (earlier ++ [b]) s
    exact ⟨(settle_receiver _).trans hrec, h1, h2, h3, h4, h5, (settle_closed _).trans hclosed, h6, h7⟩
  have habort : ∀ b r', r.state = .receiving → receiverBit s.comm.held r b = (huntAgain r', none) → aborts b :=
    fun b r' hs hbit => by
      obtain ⟨hrec, hkept⟩ := hsame b (by rw [hs]; decide) (by rw [hbit])
      obtain ⟨hstate, hassembly⟩ := receiverAfter_hunting (held := s.comm.held) (r := r) (b := b) (r' := r') (by rw [hbit])
      exact ⟨_, exec_receiveAbort _ hr, by rw [hrec, hstate], by rw [hrec, hassembly], hkept⟩
  have hframe : ∀ b, r.state = .receiving → receiverBit s.comm.held r b = frameBit s.comm.held (countBit r b) b :=
    fun b hs => receiverBit_frame b (.inl hs)
  have hcount : ∀ b, (countBit r b).state = r.state ∧ (countBit r b).stuffRun = r.stuffRun
      ∧ (countBit r b).stuffBit = r.stuffBit ∧ (countBit r b).assembly = r.assembly := fun b => by
    cases b <;> exact ⟨rfl, rfl, rfl, rfl⟩
  refine ⟨⟨exec_openingDelimiter _ hr, exec_receiveAbort _ hr⟩, fun hs hlead hrun hdom => ?_, fun hs hrun hruns => ?_,
    fun hs hrun hbit => ?_, fun hs hrun => ?_, fun hs hrun hlen b => ?_⟩
  · have hbit : receiverBit s.comm.held r false = (openFrame (countBit r false), none) := by
      rw [receiverBit_hunt _ hs, huntBit, if_neg Bool.false_ne_true, if_pos ⟨hlead, hrun⟩]
    have hafter : receiverAfter s.comm.held r false = openFrame (countBit r false) := by
      rw [receiverAfter_below (by rw [hbit]; show r.dominantRun + 1 ≠ 64; omega), hbit]
    obtain ⟨hrec, hkept⟩ := hsame false (by rw [hs]; decide) (by rw [hbit])
    exact ⟨_, exec_openingDelimiter _ hr, by rw [hrec, hafter]; rfl, by rw [hrec, hafter]; rfl, by rw [hrec, hafter]; rfl, hkept⟩
  · have hbit : receiverBit s.comm.held r false = ({ countBit r false with leading := lineIdle r }, none) := by
      rw [receiverBit_hunt _ hs, huntBit, if_neg Bool.false_ne_true, if_neg fun h => hrun h.2]
    obtain ⟨hrec, hkept⟩ := hsame false (by rw [hs]; decide) (by rw [hbit])
    have hafter : (receiverAfter s.comm.held r false).state = .hunt
        ∧ ((receiverAfter s.comm.held r false).leading = true ↔ 11 ≤ r.recessiveRun) := by
      unfold receiverAfter
      rw [hbit]
      split_ifs with h64
      · have h64' : r.dominantRun + 1 = 64 := h64
        refine ⟨rfl, fun h => absurd h Bool.false_ne_true, fun h => ?_⟩
        omega
      · exact ⟨hs, decide_eq_true_iff⟩
    exact ⟨_, exec_openingDelimiter _ hr, by rw [hrec, hafter.1], by rw [hrec, hafter.2], hkept⟩
  · exact habort false _ hs ((hframe _ hs).trans (frameBit_dominant hrun hbit))
  · refine habort true (countBit r true) hs ((hframe _ hs).trans ((frameBit_after_seven (r := countBit r true) _ hrun).trans ?_))
    rw [if_neg (by simp)]
  · obtain ⟨hcs, hcr, -, hca⟩ := hcount b
    obtain ⟨r', hr'⟩ := frameBit_tooLong (held := s.comm.held) (r := countBit r b) b (hcs.trans hs) (by omega)
      ((congrArg List.length hca).trans hlen)
    exact habort b r' hs ((hframe _ hs).trans hr')

end Sys2Proof.Machine
end

section
/-! SUPPORT. The passage of a whole content over the line, from one delimiter to the other (R80 to R82, R84, R85, R92). Settles O12. -/

namespace Sys2Proof.Machine

variable {held : Option Nat} {r r' r'' : Receiver} {xs : List Bool} {run : Nat} {last : Bool}

/-! ## A content on the line

`Carries held r bits r'`: the bits take the receiver from `r` to `r'`, and close no frame and complete no run on the way, so that of
the link only the attempt goes along. -/

def Carries (held : Option Nat) (r : Receiver) (bits : List Bool) (r' : Receiver) : Prop :=
  ∀ (stuckAt : Nat) (l : Link), 64 < stuckAt → l.receiver = r →
    sampleBits held stuckAt l bits = { l with receiver := r', attempt := l.attempt.map (fun a => bits.foldl attemptBit a) }

theorem Carries.nil (held : Option Nat) (r : Receiver) : Carries held r [] r := fun _ l _ h => by
  subst h
  have hid : l.attempt.map (fun a => [].foldl attemptBit a) = l.attempt := Option.map_id'
  rw [hid]
  rfl

theorem Carries.append {xs ys : List Bool} (h : Carries held r xs r') (h' : Carries held r' ys r'') :
    Carries held r (xs ++ ys) r'' := fun stuckAt l hs hr => by
  rw [sampleBits_append, h stuckAt l hs hr, h' stuckAt _ hs rfl]
  simp only [Option.map_map, List.foldl_append]
  rfl

theorem Carries.one {b : Bool} (hon : r.state ≠ .off) (hdom : (countBit r b).dominantRun < 64)
    (h : receiverBit held r b = (r', none)) : Carries held r [b] r' := fun stuckAt l hs hr => by
  subst hr
  have hsame : r'.dominantRun = (countBit l.receiver b).dominantRun := by
    have := (receiverBit_sameRuns held b hon).2
    rw [h] at this
    exact this
  have hafter : receiverAfter held l.receiver b = r' := by
    rw [receiverAfter_below (by rw [h]; show r'.dominantRun ≠ 64; omega), h]
  have hreset : decide ((countBit l.receiver b).dominantRun = Config.busResetBits) = false :=
    decide_eq_false (Nat.ne_of_lt hdom)
  have hstuck : decide ((countBit l.receiver b).dominantRun = stuckAt) = false := decide_eq_false (by omega)
  show sampleBit held stuckAt l b = _
  rw [sampleBit_on held stuckAt b hon, hafter, h, hreset, hstuck, Bool.or_false, Bool.or_false]
  show { l with receiver := r', closed := l.closed ++ [], attempt := _ } = _
  rw [List.append_nil]
  rfl

/-! ## The opening delimiter -/

/-- A recessive bit after the leading 0 (R84). -/
theorem receiverBit_recessive (h : r.state = .hunt) (hlead : r.leading = true) (hrun : r.recessiveRun < 7) :
    receiverBit held r true = ({ r with recessiveRun := r.recessiveRun + 1, dominantRun := 0 }, none) := by
  rw [receiverBit_hunt _ h, huntBit, if_pos rfl, decide_eq_true hrun, hlead]
  obtain ⟨⟩ := r
  cases hlead
  rfl

theorem carries_recessive (held : Option Nat) : ∀ k r, r.state = .hunt → r.leading = true → r.recessiveRun + k ≤ 7 → ∃ r',
    Carries held r (List.replicate k true) r' ∧ r'.state = .hunt ∧ r'.leading = true
      ∧ r'.recessiveRun = r.recessiveRun + k ∧ r'.dominantRun ≤ r.dominantRun
  | 0, r, h, hlead, _ => ⟨r, .nil held r, h, hlead, rfl, Nat.le_refl _⟩
  | k + 1, r, h, hlead, hk => by
    obtain ⟨r', hcarry, h', hlead', hrun', hdom'⟩ := carries_recessive held k
      { r with recessiveRun := r.recessiveRun + 1, dominantRun := 0 } h hlead
      (by show r.recessiveRun + 1 + k ≤ 7; omega)
    refine ⟨r', ?_, h', hlead', ?_, Nat.le_trans hdom' (Nat.zero_le _)⟩
    · refine Carries.append (xs := [true]) (.one (by rw [h]; decide) (by show 0 < 64; decide) (receiverBit_recessive h hlead (by omega))) hcarry
    · rw [hrun']
      show r.recessiveRun + 1 + k = _
      omega

/-- The opening delimiter on an idle line takes the receiver to RECEIVING (R84). -/
theorem carries_opening (h : r.state = .hunt) (hidle : 11 ≤ r.recessiveRun) (hdom : r.dominantRun = 0)
    (hlead : r.leading = false) : ∃ r', Carries held r delimiter r' ∧ r'.state = .receiving ∧ r'.stuffRun = 0
      ∧ r'.assembly = [] ∧ r'.dominantRun ≤ 2 := by
  have hidle' : lineIdle r = true := decide_eq_true hidle
  have hfirst : receiverBit held r false = ({ countBit r false with leading := true }, none) := by
    rw [receiverBit_hunt _ h, huntBit, if_neg Bool.false_ne_true, if_neg (by simp [hlead]), hidle']
  have hzero : Carries held r [false] { countBit r false with leading := true } :=
    .one (by rw [h]; decide) (by show r.dominantRun + 1 < 64; omega) hfirst
  obtain ⟨r', hones, h', hlead', hrun', hdom'⟩ := carries_recessive held 7 { countBit r false with leading := true } h rfl (Nat.le_refl _)
  have hdom1 : r'.dominantRun ≤ 1 := by
    have : r'.dominantRun ≤ r.dominantRun + 1 := hdom'
    omega
  have hopen : receiverBit held r' false = (openFrame (countBit r' false), none) := by
    rw [receiverBit_hunt _ h', huntBit, if_neg Bool.false_ne_true, if_pos ⟨hlead', hrun'⟩]
  refine ⟨openFrame (countBit r' false), (hzero.append hones).append (.one (by rw [h']; decide) ?_ hopen), rfl, rfl, rfl, ?_⟩
  · show r'.dominantRun + 1 < 64
    omega
  · show r'.dominantRun + 1 ≤ 2
    omega

/-! ## The content -/

/-- The receiver's state after content bits: SKIPPING from the eighth on where the address filter fails (R85). -/
def stateAt (held : Option Nat) (xs : List Bool) : ReceiverState :=
  if 8 ≤ xs.length ∧ addressPasses held (bitsByte (xs.take 8)) = false then .skipping else .receiving

theorem stateAt_cases (held : Option Nat) (xs : List Bool) : stateAt held xs = .receiving ∨ stateAt held xs = .skipping := by
  unfold stateAt
  split_ifs
  · exact .inr rfl
  · exact .inl rfl

theorem stateAt_append (held : Option Nat) {xs : List Bool} (h : 8 ≤ xs.length) (ys : List Bool) :
    stateAt held (xs ++ ys) = stateAt held xs := by
  unfold stateAt
  rw [List.take_append_of_le_length h, List.length_append]
  simp only [h, Nat.le_add_right_of_le h, true_and]

/-- The receiver amid a frame: `xs` taken as content, a stuffing run of `run` bits `last` (R81). -/
structure Follows (held : Option Nat) (xs : List Bool) (run : Nat) (last : Bool) (r : Receiver) : Prop where
  state : r.state = stateAt held xs
  assembled : r.state = .receiving → r.assembly = xs
  runCount : r.stuffRun = run
  runBit : 0 < run → r.stuffBit = last
  dominant : r.dominantRun ≤ run + 2
  recessive : 0 < run → last = true → r.dominantRun = 0

theorem Follows.framing (h : Follows held xs run last r) : r.state = .receiving ∨ r.state = .skipping := by
  rw [h.state]
  exact stateAt_cases held xs

theorem Follows.on (h : Follows held xs run last r) : r.state ≠ .off := by
  rcases h.framing with h | h <;> rw [h] <;> decide

/-- A bit taken as content, under the filter at the eighth (R82, R85). -/
theorem takeContentBit_taken (b : Bool) (hs : r.state = stateAt held xs) (ha : r.state = .receiving → r.assembly = xs)
    (hl : xs.length + 1 < 368) : ∃ a, takeContentBit held r b = { r with state := stateAt held (xs ++ [b]), assembly := a }
      ∧ (stateAt held (xs ++ [b]) = .receiving → a = xs ++ [b]) := by
  by_cases hskip : r.state = .skipping
  · have hlen : 8 ≤ xs.length := by
      have h := hs.symm.trans hskip
      unfold stateAt at h
      split_ifs at h with h8
      exact h8.1
    have hsame : stateAt held (xs ++ [b]) = r.state := (stateAt_append held hlen [b]).trans hs.symm
    rw [hsame]
    refine ⟨r.assembly, if_pos hskip, fun h => absurd (hskip.symm.trans h) (by decide)⟩
  · have hrec : r.state = .receiving := by
      rcases stateAt_cases held xs with h | h
      · exact hs.trans h
      · exact absurd (hs.trans h) hskip
    have hlen : (r.assembly ++ [b]).length = xs.length + 1 := by rw [ha hrec]; simp
    have htake : takeContentBit held r b =
        if (r.assembly ++ [b]).length = 8 ∧ addressPasses held (bitsByte (r.assembly ++ [b])) = false then
          { r with state := .skipping, assembly := [] }
        else if 368 ≤ (r.assembly ++ [b]).length then huntAgain r else { r with assembly := r.assembly ++ [b] } := if_neg hskip
    rw [htake, if_neg (c := 368 ≤ _) (by omega), ha hrec]
    by_cases h8 : xs.length + 1 = 8
    · have hwhole : (xs ++ [b]).take 8 = xs ++ [b] := List.take_of_length_le (by simp; omega)
      have hat : stateAt held (xs ++ [b]) = if addressPasses held (bitsByte (xs ++ [b])) = false then .skipping else .receiving := by
        unfold stateAt
        rw [hwhole, List.length_append]
        simp [h8]
      rw [hat]
      by_cases hpass : addressPasses held (bitsByte (xs ++ [b])) = false
      · rw [if_pos hpass, if_pos ⟨by simpa using h8, hpass⟩]
        exact ⟨[], rfl, fun h => absurd h (by decide)⟩
      · rw [if_neg hpass, if_neg fun h => hpass h.2, ← hrec]
        exact ⟨_, rfl, fun _ => rfl⟩
    · have hat : stateAt held (xs ++ [b]) = r.state := by
        by_cases hmore : 8 ≤ xs.length
        · exact (stateAt_append held hmore [b]).trans hs.symm
        · rw [hrec]
          exact if_neg fun h => by
            have := h.1
            simp at this
            omega
      rw [hat, if_neg fun h => h8 (by simpa using h.1)]
      exact ⟨_, rfl, fun _ => rfl⟩

theorem Follows.nextRun_eq (h : Follows held xs run last r) (b : Bool) : nextRun r.stuffRun r.stuffBit b = nextRun run last b := by
  rw [h.runCount]
  unfold nextRun
  by_cases hrun : 0 < run
  · rw [h.runBit hrun]
  · rw [if_neg fun h => hrun h.1, if_neg fun h => hrun h.1]

/-- One content bit on the line. -/
theorem Follows.bit (h : Follows held xs run last r) (hrun : run ≤ 5) (hl : xs.length + 1 < 368) (b : Bool) :
    ∃ r', Carries held r [b] r' ∧ Follows held (xs ++ [b]) (nextRun run last b) b r'
      ∧ r'.runStuffed = if 0 < run ∧ b = last then r.runStuffed else false := by
  have hstep : frameBit held (countBit r b) b = (takeContentBit held { countBit r b with
      stuffRun := nextRun run last b
      stuffBit := b
      runStuffed := if 0 < run ∧ b = last then r.runStuffed else false } b, none) := by
    have hruns : (countBit r b).stuffRun = r.stuffRun ∧ (countBit r b).stuffBit = r.stuffBit
        ∧ (countBit r b).runStuffed = r.runStuffed := by cases b <;> exact ⟨rfl, rfl, rfl⟩
    obtain ⟨hr, hb, hs⟩ := hruns
    rw [frameBit_content b (by rw [hr, h.runCount]; exact hrun), hr, hb, hs, h.nextRun_eq b, h.runCount]
    by_cases hpos : 0 < run
    · rw [h.runBit hpos]
    · rw [if_neg fun h => hpos h.1, if_neg fun h => hpos h.1]
  have hdom : (countBit r b).dominantRun ≤ nextRun run last b + 2 ∧ (b = true → (countBit r b).dominantRun = 0) := by
    cases b with
    | true => exact ⟨Nat.zero_le _, fun _ => rfl⟩
    | false =>
      refine ⟨?_, fun h => absurd h Bool.false_ne_true⟩
      have hle := h.dominant
      show r.dominantRun + 1 ≤ nextRun run last false + 2
      by_cases hpos : 0 < run
      · cases last with
        | true =>
          rw [h.recessive hpos rfl]
          omega
        | false =>
          rw [nextRun_same false hpos]
          omega
      · have := nextRun_pos run last false
        omega
  obtain ⟨a, htake, ha⟩ := takeContentBit_taken (r := { countBit r b with
      stuffRun := nextRun run last b
      stuffBit := b
      runStuffed := if 0 < run ∧ b = last then r.runStuffed else false }) (held := held) (xs := xs) b
    (by cases b <;> exact h.state) (by cases b <;> exact h.assembled) hl
  rw [htake] at hstep
  refine ⟨_, .one h.on ?_ ((receiverBit_frame b h.framing).trans hstep), ⟨rfl, ha, rfl, fun _ => rfl, hdom.1, fun _ => hdom.2⟩, rfl⟩
  have := nextRun_le last b hrun
  omega

/-- The stuff bit after a run of six. -/
theorem Follows.stuff (h : Follows held xs 6 last r) :
    ∃ r', Carries held r [!last] r' ∧ Follows held xs 1 (!last) r' ∧ r'.runStuffed = true := by
  have hlast := h.runBit (by decide)
  have hcount : (countBit r (!last)).stuffRun = 6 ∧ (countBit r (!last)).stuffBit = last
      ∧ (countBit r (!last)).dominantRun ≤ 1 ∧ ((!last) = true → (countBit r (!last)).dominantRun = 0) := by
    cases last with
    | true =>
      refine ⟨h.runCount, hlast, ?_, fun h => absurd h Bool.false_ne_true⟩
      show r.dominantRun + 1 ≤ 1
      rw [h.recessive (by decide) rfl]
    | false => exact ⟨h.runCount, hlast, Nat.zero_le _, fun _ => rfl⟩
  obtain ⟨hrun, hbit, hdom, hzero⟩ := hcount
  have hstep := frameBit_stuff (held := held) hrun
  rw [hbit] at hstep
  refine ⟨_, .one h.on (by omega) ((receiverBit_frame _ h.framing).trans hstep),
    ⟨?_, ?_, rfl, fun _ => rfl, Nat.le_trans hdom (by decide), fun _ => hzero⟩, rfl⟩
  · cases last <;> exact h.state
  · cases last <;> exact h.assembled

/-- A stuffed content on the line (R80, R81). -/
theorem Follows.content (h : Follows held xs run last r) (hrun : run ≤ 5) (ys : List Bool) (hl : xs.length + ys.length < 368) :
    ∃ r' run' last', Carries held r (stuffFrom run last ys) r' ∧ Follows held (xs ++ ys) run' last' r' ∧ run' ≤ 5 := by
  induction ys generalizing xs run last r with
  | nil => exact ⟨r, run, last, .nil held r, by rw [List.append_nil]; exact h, hrun⟩
  | cons b bs ih =>
    rw [List.length_cons] at hl
    obtain ⟨r1, hcarry, h1, -⟩ := h.bit hrun (by omega) b
    have hxs : xs ++ b :: bs = (xs ++ [b]) ++ bs := by rw [List.append_assoc, List.singleton_append]
    have hl' : (xs ++ [b]).length + bs.length < 368 := by simp only [List.length_append, List.length_singleton]; omega
    have hle := nextRun_le last b hrun
    rw [stuffFrom_cons, hxs]
    split_ifs with hsix
    · rw [hsix] at h1
      obtain ⟨r2, hcarry2, h2, -⟩ := h1.stuff
      obtain ⟨r3, run', last', hcarry3, h3, hrun'⟩ := ih h2 (by decide) hl'
      exact ⟨r3, run', last', (hcarry.append hcarry2).append hcarry3, h3, hrun'⟩
    · obtain ⟨r3, run', last', hcarry3, h3, hrun'⟩ := ih h1 (by omega) hl'
      exact ⟨r3, run', last', hcarry.append hcarry3, h3, hrun'⟩

/-! ## The closing delimiter -/

theorem Follows.ones (k : Nat) (h : Follows held xs run true r) (hpos : 0 < run) (hrun : run + k ≤ 6)
    (hl : xs.length + k < 368) : ∃ r', Carries held r (List.replicate k true) r'
      ∧ Follows held (xs ++ List.replicate k true) (run + k) true r' ∧ r'.runStuffed = r.runStuffed := by
  induction k generalizing xs run r with
  | zero => exact ⟨r, .nil held r, by simpa using h, rfl⟩
  | succ k ih =>
    obtain ⟨r1, hcarry, h1, hs1⟩ := h.bit (by omega) (by omega) true
    rw [nextRun_same true hpos] at h1
    rw [if_pos ⟨hpos, rfl⟩] at hs1
    obtain ⟨r2, hcarry2, h2, hs2⟩ := ih h1 (by omega) (by omega)
      (by simp only [List.length_append, List.length_singleton]; omega)
    refine ⟨r2, hcarry.append (xs := [true]) hcarry2, ?_, hs2.trans hs1⟩
    rw [List.append_assoc, Nat.add_assoc, Nat.add_comm 1 k] at h2
    exact h2

/-- The seventh recessive bit of a run. -/
theorem Follows.seventh (h : Follows held xs 6 true r) : ∃ r', Carries held r [true] r' ∧ r'.stuffRun = 7
    ∧ r'.state = r.state ∧ r'.assembly = r.assembly ∧ r'.runStuffed = r.runStuffed ∧ r'.dominantRun = 0 :=
  ⟨{ countBit r true with stuffRun := 7 },
    .one h.on (by show 0 < 64; decide) ((receiverBit_frame _ h.framing).trans (frameBit_seventh (r := countBit r true) h.runCount (h.runBit (by decide)))),
    rfl, rfl, rfl, rfl, rfl⟩

/-- What the delimiter's leading 0 and seven ones leave: the content is what is left once they are withdrawn (R81). -/
theorem Follows.closing (h : Follows held xs run last r) (hrun : run ≤ 5) (hlow : 8 ≤ xs.length) (hl : xs.length ≤ 360) :
    ∃ r', Carries held r [false, true, true, true, true, true, true, true] r' ∧ r'.stuffRun = 7 ∧ r'.state = stateAt held xs
      ∧ r'.dominantRun = 0 ∧ (r'.state = .receiving → withdrawDelimiter r' = xs) := by
  obtain ⟨r1, hc1, h1, -⟩ := h.bit hrun (by omega) false
  have hle := nextRun_le last false hrun
  have hkept : ∀ ys, stateAt held (xs ++ [false] ++ ys) = stateAt held xs := fun ys => by
    rw [List.append_assoc, stateAt_append held hlow]
  have hlen : (xs ++ [false]).length = xs.length + 1 := by simp
  by_cases hsix : nextRun run last false = 6
  · rw [hsix] at h1
    obtain ⟨r2, hc2, h2, hs2⟩ := h1.stuff
    obtain ⟨r3, hc3, h3, hs3⟩ := Follows.ones 5 h2 (by decide) (by decide) (by omega)
    obtain ⟨r4, hc4, h7, hstate, hass, hs4, hdom⟩ := h3.seventh
    refine ⟨r4, ((hc1.append hc2).append hc3).append hc4, h7, hstate.trans (h3.state.trans (hkept _)), hdom, fun hrec => ?_⟩
    rw [withdrawDelimiter, hs4, hs3, hs2, hass, h3.assembled (hstate ▸ hrec), if_pos rfl, List.append_assoc]
    exact List.take_left' (by simp)
  · obtain ⟨r2, hc2, h2, hs2⟩ := h1.bit (by omega) (by omega) true
    rw [show nextRun (nextRun run last false) false true = 1 from nextRun_opposite _ false] at h2
    rw [if_neg (by simp)] at hs2
    obtain ⟨r3, hc3, h3, hs3⟩ := Follows.ones 5 h2 (by decide) (by decide) (by simp; omega)
    obtain ⟨r4, hc4, h7, hstate, hass, hs4, hdom⟩ := h3.seventh
    refine ⟨r4, ((hc1.append hc2).append hc3).append hc4, h7, ?_, hdom, fun hrec => ?_⟩
    · rw [hstate, h3.state, List.append_assoc, hkept]
    · rw [withdrawDelimiter, hs4, hs3, hs2, hass, h3.assembled (hstate ▸ hrec), if_neg Bool.false_ne_true, List.append_assoc,
        List.append_assoc]
      exact List.take_left' (by simp)

/-! ## The attempt reads its own bits back -/

theorem attemptBit_own {a : Attempt} {e : Bool} (ho : a.outcome = none) (he : a.bits[a.sent]? = some e)
    (hmore : a.sent + 1 < a.bits.length) : attemptBit a e = { a with sent := a.sent + 1 } := by
  rw [attemptBit_reads ho he, if_pos rfl, if_neg (by omega), ← ho]

theorem foldl_attemptBit_own (pre : List Bool) : ∀ {a : Attempt} {before post : List Bool}, a.bits = before ++ (pre ++ post) →
    post ≠ [] → a.sent = before.length → a.outcome = none →
    pre.foldl attemptBit a = { a with sent := before.length + pre.length } := by
  induction pre with
  | nil =>
    intro a before post _ _ hs _
    rw [List.length_nil, Nat.add_zero, ← hs]
    rfl
  | cons b bs ih =>
    intro a before post hb hpost hs ho
    have hlen := List.length_pos_of_ne_nil hpost
    have hbit : a.bits[a.sent]? = some b := by rw [hb, hs]; simp
    rw [List.foldl_cons, attemptBit_own ho hbit (by rw [hb, hs]; simp; omega),
      ih (a := { a with sent := a.sent + 1 }) (before := before ++ [b]) (post := post) (by rw [hb]; simp) hpost (by simp [hs]) ho]
    simp only [List.length_append, List.length_cons, List.length_nil, Attempt.mk.injEq, true_and, and_true]
    omega

/-- The last bit of an attempt, read back as sent (R92). -/
theorem attemptBit_last {a : Attempt} {pre : List Bool} {e : Bool} (hb : a.bits = pre ++ [e]) (hs : a.sent = 0)
    (ho : a.outcome = none) : completesAt (some (pre.foldl attemptBit a)) e = true
      ∧ attemptBit (pre.foldl attemptBit a) e = { a with sent := (pre ++ [e]).length, outcome := some .complete } := by
  have hpre := foldl_attemptBit_own pre (a := a) (before := []) (post := [e]) hb (List.cons_ne_nil _ _) hs ho
  rw [List.length_nil, Nat.zero_add] at hpre
  have hbit : ({ a with sent := pre.length } : Attempt).bits[({ a with sent := pre.length } : Attempt).sent]? = some e := by
    show a.bits[pre.length]? = some e
    rw [hb]
    simp
  have hlast := attemptBit_reads (a := { a with sent := pre.length }) ho hbit e
  rw [if_pos rfl, if_pos (by show pre.length + 1 = a.bits.length; rw [hb]; simp)] at hlast
  rw [hpre, completesAt, hlast]
  refine ⟨?_, by rw [List.length_append]; rfl⟩
  rw [ho]
  rfl

/-! ## The whole frame -/

theorem addressPasses_iff (held : Option Nat) (dst : Byte) :
    addressPasses held dst = true ↔ dst = 0xFF#8 ∨ held = some dst.toNat := by
  rw [addressPasses, Bool.or_eq_true, beq_iff_eq, beq_iff_eq]

theorem stateAt_of_byte (held : Option Nat) (dst : Byte) (ys : List Bool) :
    stateAt held (byteBits dst ++ ys) = if addressPasses held dst = true then .receiving else .skipping := by
  rw [stateAt_append held (by simp) ys]
  unfold stateAt
  rw [List.take_of_length_le (by simp), bitsByte_byteBits, byteBits_length]
  cases addressPasses held dst <;> rfl

theorem lineBits_split (content : List Byte) : lineBits content =
    (delimiter ++ stuffFrom 0 false (bytesBits content) ++ [false, true, true, true, true, true, true, true]) ++ [false] := by
  simp [lineBits, delimiter]

/-- Settles O12: delimiter, content and delimiter in turn; the last bit closes the frame and completes the attempt. -/
theorem lineCarriesContent : Obligations.LineCarriesContent := by
  unfold Obligations.LineCarriesContent
  intro held stuckAt l content attempt hstate hidle hdom hlead hstuck hlow hhigh hatt hattempt dst passes addressed u
  obtain ⟨r1, hopen, hs1, hrun1, hass1, hdom1⟩ := carries_opening (held := held) hstate hidle hdom hlead
  have hfollows : Follows held [] 0 false r1 :=
    ⟨hs1, fun _ => hass1, hrun1, fun h => absurd h (Nat.lt_irrefl _), hdom1, fun h => absurd h (Nat.lt_irrefl _)⟩
  have hpasses : addressPasses held dst = true ↔ passes := addressPasses_iff held dst
  have haddressed : addressed.receiver.state = if addressPasses held dst = true then .receiving else .skipping := by
    obtain ⟨r2, run, last, hcarry, h2, -⟩ := hfollows.content (by decide) (byteBits dst) (by simp)
    have h := (hopen.append hcarry) stuckAt l hstuck rfl
    show (sampleBits held stuckAt l _).receiver.state = _
    rw [h]
    refine h2.state.trans ?_
    rw [List.nil_append, ← List.append_nil (byteBits dst), stateAt_of_byte]
  obtain ⟨r2, run, last, hcontent, h2, hrun⟩ := hfollows.content (by decide) (bytesBits content) (by simp; omega)
  rw [List.nil_append] at h2
  obtain ⟨r3, hclose, h7, hs3, hdom3, hwithdraw⟩ := h2.closing hrun (by simp; omega) (by simp; omega)
  have hframed : r3.state = if addressPasses held dst = true then .receiving else .skipping := by
    rw [hs3]
    obtain ⟨d, rest, rfl⟩ := List.exists_cons_of_ne_nil (l := content) (by rintro rfl; simp at hlow)
    exact stateAt_of_byte held d (bytesBits rest)
  have hframing : r3.state = .receiving ∨ r3.state = .skipping := by
    rw [hs3]
    exact stateAt_cases held _
  have hlast : u = sampleBit held stuckAt { l with
      receiver := r3
      attempt := l.attempt.map (fun a => (delimiter ++ stuffFrom 0 false (bytesBits content)
        ++ [false, true, true, true, true, true, true, true]).foldl attemptBit a) } false := by
    show sampleBits held stuckAt l (lineBits content) = _
    rw [lineBits_split, sampleBits_append, ((hopen.append hcontent).append hclose) stuckAt l hstuck rfl]
    rfl
  have hbit : receiverBit held r3 false = (huntAgain (countBit r3 false),
      if r3.state = .receiving then some (withdrawDelimiter r3) else none) := by
    rw [receiverBit_frame _ hframing, frameBit_after_seven _ (by exact h7)]
    simp only [true_and]
    rfl
  have hcount : (countBit r3 false).dominantRun = 1 := by show r3.dominantRun + 1 = 1; rw [hdom3]
  have hon : r3.state ≠ .off := by rcases hframing with h | h <;> rw [h] <;> decide
  rw [sampleBit_on held stuckAt false (by exact hon)] at hlast
  dsimp only at hlast
  rw [hbit, hcount, decide_eq_false (show ¬ 1 = Config.busResetBits by decide),
    decide_eq_false (show ¬ 1 = stuckAt by have : 64 < stuckAt := hstuck; omega), Bool.or_false, Bool.or_false, hatt] at hlast
  have hown : ∀ a, attempt = some a → _ := fun a ha => by
    obtain ⟨hbits, hsent, hout⟩ := hattempt a ha
    exact attemptBit_last (hbits.trans (lineBits_split content)) hsent hout
  refine ⟨fun hp => ⟨?_, ?_⟩, fun hp => ⟨?_, ?_⟩, ?_, ?_, ?_, ?_, fun a ha => ?_⟩
  · rw [haddressed, if_pos (hpasses.2 hp)]
  · rw [if_pos (hpasses.2 hp)] at hframed
    rw [hlast, if_pos hframed, hwithdraw hframed]
    show l.closed ++ [⟨bytesBits content, completesAt (attempt.map _) false⟩] = _
    cases hatt' : attempt with
    | none => rfl
    | some a => rw [Option.map_some, (hown a hatt').1]; rfl
  · rw [haddressed, if_neg (mt hpasses.1 hp)]
  · rw [if_neg (mt hpasses.1 hp)] at hframed
    rw [hlast, hframed, if_neg (by decide)]
    exact List.append_nil _
  · rw [hlast]
    show (receiverAfter held r3 false).state = .hunt
    rw [receiverAfter_below (by rw [hbit]; show (countBit r3 false).dominantRun ≠ 64; rw [hcount]; decide), hbit]
    rfl
  · rw [hlast]
  · rw [hlast]
  · rw [hlast]
  · rw [hlast, ha, Option.map_some, Option.map_some, (hown a ha).2, ← lineBits_split]

end Sys2Proof.Machine
end

section
/-! SUPPORT. The frame commands (R102, R103): the frame in hand is read by none of the blocks it is handed to, so a frame command
is its hand-on on the state with the oldest frame gone. Settles O44, O45 and O46. -/

namespace Sys2Proof.Machine

variable {s : State} {f : Frame}

/-! ## Operations that neither read nor touch the frame processor -/

def FpFree (op : State → State) : Prop := ∀ (x : FrameProcessor) (s : State), op (s.setFp x) = (op s).setFp x

namespace FpFree

variable {op op' : State → State}

theorem comp (h : FpFree op) (h' : FpFree op') : FpFree (fun s => op' (op s)) := fun x s => by
  show op' (op (s.setFp x)) = _
  rw [h x s, h' x (op s)]

theorem ite {p : State → Prop} [∀ s, Decidable (p s)] (hp : ∀ x s, p (s.setFp x) ↔ p s) (h : FpFree op) (h' : FpFree op') :
    FpFree (fun s => if p s then op s else op' s) := fun x s => by
  show (if p (s.setFp x) then op (s.setFp x) else op' (s.setFp x)) = (if p s then op s else op' s).setFp x
  rw [h x s, h' x s, apply_ite (fun t : State => t.setFp x)]
  simp only [hp x s]

theorem refl : FpFree (fun s => s) := fun _ _ => rfl

theorem unlessFailed (h : FpFree op) : FpFree (fun s => Machine.unlessFailed s (op s)) :=
  ite (p := fun s => s.comm.state = .failed) (fun _ _ => Iff.rfl) refl h

theorem onceInForce (h : FpFree op) : FpFree (fun s => Machine.onceInForce s (op s)) :=
  ite (p := fun s => s.ret.inForce = true) (fun _ _ => Iff.rfl) h refl

end FpFree

theorem onceInForce_not {n : State} (h : s.ret.inForce = false) : onceInForce s n = s :=
  if_neg fun h' => Bool.false_ne_true (h.symm.trans h')

theorem onceInForce_of {n : State} (h : s.ret.inForce = true) : onceInForce s n = n := if_pos h

theorem onceInForce_self (s : State) : onceInForce s s = s := ite_self s

/-! ## A frame command -/

theorem frameStep_not {row : Frame → Bool} {handOn : Frame → State → State} (hf : frontFrame s = some f) (hrow : row f = false) :
    frameStep row handOn s = .next s := by
  unfold frameStep
  rw [hf]
  dsimp only
  rw [if_neg fun h => Bool.false_ne_true (hrow.symm.trans h.2)]
  rfl

theorem frontFrame_inHand (hf : frontFrame s = some f) : s.fp.inHand = none := by
  unfold frontFrame at hf
  cases h : s.fp.inHand with
  | none => rfl
  | some c => rw [h] at hf; cases hf

theorem putDown_takeInHand (hf : frontFrame s = some f) : putDown (takeInHand s) = popFrame s := by
  have hfp : ({ s.fp with inHand := none } : FrameProcessor) = s.fp := by rw [← frontFrame_inHand hf]
  show (popFrame s).setFp { s.fp with inHand := none } = _
  rw [hfp]
  rfl

/-- A frame without the form of its kind is taken and leaves nothing else (R103). -/
theorem frameStep_ill {row : Frame → Bool} {handOn : Frame → State → State} (hr : inRun s = true)
    (hf : frontFrame s = some f) (hrow : row f = true) (hw : wellFormed f = false) :
    frameStep row handOn s = .next (settle (popFrame s)) := by
  unfold frameStep
  rw [hf]
  dsimp only
  rw [if_pos ⟨hr, hrow⟩, hw, if_neg Bool.false_ne_true, putDown_takeInHand hf]
  rfl

/-- A well-formed frame is handed on, on the state with it gone from the FIFO. -/
theorem frameStep_takes {row : Frame → Bool} {handOn : Frame → State → State} (ht : takes s f) (hrow : row f = true)
    (hfree : FpFree (handOn f)) : frameStep row handOn s = .next (settle (handOn f (popFrame s))) := by
  obtain ⟨hr, hf, hw⟩ := ht
  have hhand : putDown (handOn f (takeInHand s)) = handOn f (popFrame s) := by
    have htaken : takeInHand s = (popFrame s).setFp { s.fp with inHand := s.link.fifo.head? } := rfl
    have hfp : ({ s.fp with inHand := none } : FrameProcessor) = (popFrame s).fp := by
      rw [← frontFrame_inHand hf]
      rfl
    rw [htaken, hfree]
    show (handOn f (popFrame s)).setFp { s.fp with inHand := none } = _
    rw [hfp, ← hfree]
    rfl
  unfold frameStep
  rw [hf]
  dsimp only
  rw [if_pos ⟨hr, hrow⟩, hw, if_pos rfl, hhand]
  rfl

/-! ## The rows of the opcode table -/

theorem ofKind_iff {k : Byte} : ofKind k f = true ↔ f.kind = k := beq_iff_eq

theorem ofAction_iff {a : Option CampaignAction} : ofAction a f = true ↔ f.kind = 0x0A#8 ∧ campaignAction f = a := by
  rw [ofAction, Bool.and_eq_true, beq_iff_eq, decide_eq_true_iff]
  exact Iff.rfl

/-- In FAILED, and before the profile is in force for all but three kinds, a frame is set aside (R104). -/
def SetsAside (f : Frame) (hand : Frame → State → State) : Prop := ∀ t : State, t.ret.inForce = false →
  t.comm.state = .failed ∨ (f.kind ≠ 0x01#8 ∧ f.kind ≠ 0x02#8 ∧ f.kind ≠ 0x0B#8) → hand f t = t

theorem setsAside_onceInForce (g : Frame → State → State) : SetsAside f (fun f s => onceInForce s (g f s)) :=
  fun _ hno _ => if_neg fun h => Bool.false_ne_true (hno.symm.trans h)

theorem setsAside_unlessFailed (g : Frame → State → State) (hk : f.kind = 0x01#8 ∨ f.kind = 0x02#8 ∨ f.kind = 0x0B#8) :
    SetsAside f (fun f s => unlessFailed s (g f s)) := fun _ _ h => by
  rcases h with h | ⟨h1, h2, h3⟩
  · exact if_pos h
  · rcases hk with h | h | h
    · exact absurd h h1
    · exact absurd h h2
    · exact absurd h h3

/-- The command of a frame's row takes the frame, and sets it aside where R104 says so. -/
theorem exec_frameRow (f : Frame) : ∃ (row : Frame → Bool) (hand : Frame → State → State),
    (∀ s, exec (frameRow f) s = frameStep row hand s) ∧ row f = true ∧ SetsAside f hand := by
  have hkind : ∀ {n : Nat} {k : Byte}, f.kind.toNat = n → k.toNat = n → f.kind = k := fun h h' =>
    BitVec.eq_of_toNat_eq (h.trans h'.symm)
  unfold frameRow
  split
  case h_1 h =>
    have hk := hkind (k := 0x01#8) h rfl
    exact ⟨_, handEnum, fun _ => rfl, ofKind_iff.2 hk, setsAside_unlessFailed _ (.inl hk)⟩
  case h_2 h =>
    have hk := hkind (k := 0x02#8) h rfl
    exact ⟨_, handAnnounce, fun _ => rfl, ofKind_iff.2 hk, setsAside_unlessFailed _ (.inr (.inl hk))⟩
  case h_3 h =>
    exact ⟨_, handPropose, fun _ => rfl, ofKind_iff.2 (hkind (k := 0x03#8) h rfl), setsAside_onceInForce _⟩
  case h_4 h =>
    exact ⟨_, handAccept, fun _ => rfl, ofKind_iff.2 (hkind (k := 0x04#8) h rfl), setsAside_onceInForce _⟩
  case h_5 h =>
    exact ⟨_, handDecline, fun _ => rfl, ofKind_iff.2 (hkind (k := 0x05#8) h rfl), setsAside_onceInForce _⟩
  case h_6 h =>
    exact ⟨_, handConfirm, fun _ => rfl, ofKind_iff.2 (hkind (k := 0x06#8) h rfl), setsAside_onceInForce _⟩
  case h_7 h =>
    exact ⟨_, handRelease, fun _ => rfl, ofKind_iff.2 (hkind (k := 0x07#8) h rfl), setsAside_onceInForce _⟩
  case h_8 h =>
    exact ⟨_, handQuery, fun _ => rfl, ofKind_iff.2 (hkind (k := 0x08#8) h rfl), setsAside_onceInForce _⟩
  case h_9 h =>
    exact ⟨_, fun _ s => s, fun _ => rfl, ofKind_iff.2 (hkind (k := 0x09#8) h rfl), fun _ _ _ => rfl⟩
  case h_10 h =>
    have hk := hkind (k := 0x0A#8) h rfl
    split
    case h_1 ha => exact ⟨_, handCampaign takeStart, fun _ => rfl, ofAction_iff.2 ⟨hk, ha⟩, setsAside_onceInForce _⟩
    case h_2 ha => exact ⟨_, handCampaign takeFreeze, fun _ => rfl, ofAction_iff.2 ⟨hk, ha⟩, setsAside_onceInForce _⟩
    case h_3 ha => exact ⟨_, handCampaign takeRegrade, fun _ => rfl, ofAction_iff.2 ⟨hk, ha⟩, setsAside_onceInForce _⟩
    case h_4 ha => exact ⟨_, handCampaign takeReleaseAll, fun _ => rfl, ofAction_iff.2 ⟨hk, ha⟩, setsAside_onceInForce _⟩
    case h_5 ha => exact ⟨_, handCampaign (fun s => s), fun _ => rfl, ofAction_iff.2 ⟨hk, ha⟩, setsAside_onceInForce _⟩
  case h_11 h =>
    have hk := hkind (k := 0x0B#8) h rfl
    cases hreq : isRequest f with
    | true => exact ⟨ofRequest, handRequest, fun _ => rfl, hreq, setsAside_unlessFailed _ (.inr (.inr hk))⟩
    | false =>
      refine ⟨ofSegment, handSegment, fun _ => rfl, ?_, setsAside_unlessFailed _ (.inr (.inr hk))⟩
      rw [ofSegment, hreq, hk]
      rfl
  case h_12 h1 h2 h3 h4 h5 h6 h7 h8 h9 h10 h11 =>
    refine ⟨ofUnknownKind, fun _ s => s, fun _ => rfl, ?_, fun _ _ _ => rfl⟩
    unfold ofUnknownKind knownKind
    rw [Bool.not_eq_true', decide_eq_false_iff_not]
    simp only [imp_false] at h1 h2 h3 h4 h5 h6 h7 h8 h9 h10 h11
    omega

/-- Settles O44: the frame goes from the FIFO, and its hand-on changes nothing. -/
theorem framesSetAside : Obligations.FramesSetAside := by
  unfold Obligations.FramesSetAside
  intro s hr f hf aside
  have hignored : ∀ row : Frame → Bool, row f = true → frameStep row (fun _ s => s) s = .next aside := fun row hrow => by
    cases hw : wellFormed f with
    | true => exact frameStep_takes ⟨hr, hf, hw⟩ hrow FpFree.refl
    | false => exact frameStep_ill hr hf hrow hw
  obtain ⟨row, hand, hexec, hrow, haside⟩ := exec_frameRow f
  have hset : s.ret.inForce = false → s.comm.state = .failed ∨ (f.kind ≠ 0x01#8 ∧ f.kind ≠ 0x02#8 ∧ f.kind ≠ 0x0B#8) →
      exec (frameRow f) s = .next aside := fun hno h => by
    rw [hexec]
    cases hw : wellFormed f with
    | false => exact frameStep_ill hr hf hrow hw
    | true =>
      have hhand : hand f (takeInHand s) = takeInHand s := haside (takeInHand s) hno h
      unfold frameStep
      rw [hf]
      dsimp only
      rw [if_pos ⟨hr, hrow⟩, hw, if_pos rfl, hhand, putDown_takeInHand hf]
      rfl
  refine ⟨fun hw => (hexec s).trans (frameStep_ill hr hf hrow hw), fun hk => hignored ofUnknownKind ?_,
    fun hk => hignored (ofKind kindGrade) (ofKind_iff.2 hk), fun hfail hno => hset hno (.inl hfail),
    fun hno h1 h2 h3 => hset hno (.inr ⟨h1, h2, h3⟩),
    fun hk => frameStep_not hf (Bool.eq_false_iff.2 (mt ofKind_iff.1 hk)),
    fun hk => frameStep_not hf (Bool.eq_false_iff.2 (mt ofKind_iff.1 hk))⟩
  unfold ofUnknownKind knownKind
  rw [Bool.not_eq_true', decide_eq_false_iff_not]
  rcases hk with hk | hk
  · rw [hk]; decide
  · have : 12 ≤ f.kind.toNat := BitVec.le_def.1 hk
    omega

/-! ## The numbers heard -/

theorem fpFree_commTakesEnum (n : Nat) : FpFree (commTakesEnum n) := fun x s => by
  simp only [commTakesEnum, apply_ite (fun t : State => t.setFp x)]
  rfl

theorem fpFree_commTakesAnnounce (n : Nat) : FpFree (commTakesAnnounce n) := fun x s => by
  simp only [commTakesAnnounce, apply_ite (fun t : State => t.setFp x)]
  rfl

theorem claimWaits_iff : claimWaits s = true ↔ s.comm.numbering = some .claiming ∧ s.comm.method = some .chained
    ∧ queuedNotSending s.link isEnum = true := by
  rw [claimWaits, Bool.and_eq_true, decide_eq_true_iff, and_assoc]

theorem queuedNotSending_popFrame (s : State) (p : Frame → Bool) :
    queuedNotSending (popFrame s).link p = queuedNotSending s.link p := rfl

/-- Settles O45: the highest number, then QUIET WAIT or the claim that waits. -/
theorem enumIsHeard : Obligations.EnumIsHeard := by
  unfold Obligations.EnumIsHeard
  intro s f ht hk hs v highest queued
  have hexec : exec .enum s = .next (settle (commTakesEnum (u8 f.payload 0) v)) :=
    (frameStep_takes (handOn := handEnum) ht (ofKind_iff.2 hk) (fpFree_commTakesEnum _).unlessFailed).trans
      (congrArg (fun t => Host.Outcome.next (settle t)) (if_neg hs))
  have hwaits : claimWaits (noteHighest (u8 f.payload 0) v) = true ↔ queued := claimWaits_iff
  rw [hexec]
  refine ⟨fun hn => ?_, fun hq => ?_, fun hn hq => ?_⟩
  · rw [commTakesEnum, if_pos (show (noteHighest (u8 f.payload 0) v).comm.numbering = _ from hn)]
    rfl
  · have hn : (noteHighest (u8 f.payload 0) v).comm.numbering ≠ some .quietWait := fun h =>
      absurd (hq.1.symm.trans h) (by decide)
    rw [commTakesEnum, if_neg hn, if_pos (hwaits.2 hq)]
    rfl
  · rw [commTakesEnum, if_neg (show (noteHighest (u8 f.payload 0) v).comm.numbering ≠ _ from hn), if_neg (mt hwaits.1 hq)]
    rfl

/-! ## An ANNOUNCE at each block -/

theorem partnerHeard_other {x : Nat} (h : isPartner x s = false) : partnerHeard x s = s :=
  if_neg fun h' => Bool.false_ne_true (h.symm.trans h')

theorem partnerHeard_partner {x : Nat} (h : isPartner x s = true) : partnerHeard x s = partnerFresh s := if_pos h

theorem fpFree_partnerHeard (n : Nat) : FpFree (partnerHeard n) := fun x s => by
  simp only [partnerHeard, apply_ite (fun t : State => t.setFp x)]
  rfl

theorem fpFree_pairTest (own : State → Option Nat) (h : ∀ x s, own (s.setFp x) = own s) :
    FpFree (fun s => pairTest (own s) s) := fun x s => by
  simp only [pairTest, apply_ite (fun t : State => t.setFp x), h]
  rfl

theorem fpFree_releasePartner (r : ReleaseReason) (next : BondState) : FpFree (releasePartner r next) := fun x s =>
  (bystander_setFp x).releasePartner s r next

theorem fpFree_disengage (next : BondState) : FpFree (disengage next) := fun x s => (bystander_setFp x).disengage s next

theorem fpFree_examineAnnounce (a : AnnounceFields) : FpFree (examineAnnounce a) := fun x s => by
  simp only [examineAnnounce, apply_ite (fun t : State => t.setFp x), ← fpFree_releasePartner _ _ x]
  rfl

theorem fpFree_bondTakesAnnounce (a : AnnounceFields) : FpFree (bondTakesAnnounce a) :=
  .ite (p := fun s => isPartner a.source s = true) (fun _ _ => Iff.rfl)
    (((fpFree_partnerHeard _).comp (op' := takeReport a) fun _ _ => rfl).comp (fpFree_examineAnnounce a) |>.comp
      (fpFree_pairTest lastMillivolts fun _ _ => rfl)) .refl

theorem fpFree_tableTakesAnnounce (a : AnnounceFields) : FpFree (tableTakesAnnounce a) := fun x s => by
  simp only [tableTakesAnnounce, apply_ite (fun t : State => t.setFp x)]
  rfl

theorem fpFree_handAnnounce (f : Frame) : FpFree (handAnnounce f) :=
  ((fpFree_commTakesAnnounce f.src.toNat).comp (op' := fun s => onceInForce s
    (bondTakesAnnounce (readAnnounce f) (tableTakesAnnounce (readAnnounce f) s)))
      ((fpFree_tableTakesAnnounce _).comp (fpFree_bondTakesAnnounce _)).onceInForce).unlessFailed

/-- An ANNOUNCE outside FAILED: the commissioning unit, then the table and the bond engine. -/
theorem exec_announce (ht : takes s f) (hk : f.kind = 0x02#8) (hs : s.comm.state ≠ .failed) : exec .announce s =
    .next (settle (onceInForce (commTakesAnnounce f.src.toNat (popFrame s))
      (bondTakesAnnounce (readAnnounce f) (tableTakesAnnounce (readAnnounce f) (commTakesAnnounce f.src.toNat (popFrame s)))))) :=
  (frameStep_takes (handOn := handAnnounce) ht (ofKind_iff.2 hk) (fpFree_handAnnounce f)).trans
    (congrArg (fun t => Host.Outcome.next (settle t)) (if_neg hs))

theorem commTakesAnnounce_waits {n : Nat} (h : claimWaits s = true) (hle : s.comm.claim.getD 0 ≤ n) :
    commTakesAnnounce n s = withdrawClaim (noteHighest n s) := if_pos ⟨h, hle⟩

theorem commTakesAnnounce_notes {n : Nat} (h : ¬ (claimWaits s = true ∧ s.comm.claim.getD 0 ≤ n)) :
    commTakesAnnounce n s = noteHighest n s := if_neg h

theorem tableTakesAnnounce_up (a : AnnounceFields) (h : s.link.mode = .up) :
    tableTakesAnnounce a s = s.setTable (hearAnnounce (prof s) s.grade s.seconds a s.table) := if_pos h

theorem tableTakesAnnounce_not (a : AnnounceFields) (h : s.link.mode ≠ .up) : tableTakesAnnounce a s = s := if_neg h

theorem bondTakesAnnounce_other (a : AnnounceFields) (h : isPartner a.source s = false) : bondTakesAnnounce a s = s :=
  if_neg fun h' => Bool.false_ne_true (h.symm.trans h')

theorem withdrawFrame_mode (l : Link) (p : Frame → Bool) : (withdrawFrame l p).mode = l.mode := by rw [withdrawFrame_frame]

/-- Settles O46: the claim that waits or not, then the table in UP. -/
theorem announceIsHeard : Obligations.AnnounceIsHeard := by
  unfold Obligations.AnnounceIsHeard
  intro s f ht hk hs hother v comm waits
  have hbond : ∀ t : State, t.ret = s.ret → bondTakesAnnounce (readAnnounce f) t = t := fun t hret => by
    refine bondTakesAnnounce_other _ (Bool.eq_false_iff.2 fun h => ?_)
    rw [isPartner_iff, hret] at h
    rcases hother with ho | ho
    · exact Bool.false_ne_true (ho.symm.trans h.1)
    · exact ho h.2
  have hwaits : (claimWaits v = true ∧ v.comm.claim.getD 0 ≤ f.src.toNat) ↔ waits := by
    rw [claimWaits_iff, and_assoc, and_assoc]
    exact Iff.rfl
  have hnotes : ¬ waits → commTakesAnnounce f.src.toNat v = noteHighest f.src.toNat v := fun hw =>
    commTakesAnnounce_notes (mt hwaits.1 hw)
  refine ⟨fun hw hin hup => ?_, fun hw hor => ?_, fun hw hup => ?_⟩
  · rw [exec_announce ht hk hs, hnotes hw, onceInForce_of (show (noteHighest f.src.toNat v).ret.inForce = true from hin),
      tableTakesAnnounce_up _ (show (noteHighest f.src.toNat v).link.mode = .up from hup), hbond]
    · rfl
    · rfl
  · rw [exec_announce ht hk hs, hnotes hw]
    rcases hor with hno | hmode
    · rw [onceInForce_not (show (noteHighest f.src.toNat v).ret.inForce = false from hno)]
      rfl
    · rw [tableTakesAnnounce_not _ (show (noteHighest f.src.toNat v).link.mode ≠ .up from hmode), hbond, onceInForce_self]
      · rfl
      · rfl
  · obtain ⟨hclaims, hle⟩ := hwaits.2 hw
    have hmode : (withdrawClaim (noteHighest f.src.toNat v)).link.mode ≠ .up := by
      show (withdrawFrame v.link isEnum).mode ≠ .up
      rw [withdrawFrame_mode]
      exact hup
    rw [exec_announce ht hk hs, commTakesAnnounce_waits hclaims hle, tableTakesAnnounce_not _ hmode, hbond, onceInForce_self]
    · rfl
    · rfl

end Sys2Proof.Machine
end

section
/-! SUPPORT. The frames of the handshake and of a bond (R144 to R157), each as its exit, its entry or its answer. Settles O47. -/

namespace Sys2Proof.Machine

variable {s : State} {f : Frame}

/-! ## The PAIR-EN test with the last voltage sample -/

theorem pairTestPasses_last {voltage : Option Nat} {heard : Nat} (h : s.bond.report = some ⟨voltage, heard⟩) :
    pairTestPasses s (lastMillivolts s) = true ↔ (s.fe.lastVoltage.isSome = true ∧ voltage.isSome = true)
      ∧ absDiff ((s.fe.lastVoltage.map (fun y => y.mv)).getD 0) (voltage.getD 0) ≤ (prof s).joinLimit
      ∧ s.seconds ≤ heard + 2 * (prof s).announceInterval := by
  unfold pairTestPasses lastMillivolts
  rw [h]
  cases s.fe.lastVoltage with
  | none => cases voltage <;> simp
  | some v =>
    cases voltage with
    | none => simp
    | some pv => simp [and_comm]

theorem pairTest_not_standing (own : Option Nat) (h : bondStands s.ret.bondState = false) : pairTest own s = s := by
  rw [pairTest_eq, setPairEn_of_not_standing h]
  rfl

/-- PAIR-EN after a test while a bond stands. -/
theorem pairTest_pairEn_iff (own : Option Nat) (h : bondStands s.ret.bondState = true) :
    (pairTest own s).bond.pairEn = true ↔ s.bond.pairEn = true ∨ pairTestPasses s own = true := by
  rw [pairTest_eq]
  show (s.bond.pairEn || (bondStands s.ret.bondState && pairTestPasses s own)) = true ↔ _
  rw [h, Bool.true_and, Bool.or_eq_true]

/-! ## An ANNOUNCE from the partner -/

/-- The partner's ANNOUNCE names this node in a state that keeps the bond (R154). -/
theorem consistent_iff (a : AnnounceFields) (s : State) : consistent a s = true ↔
    (a.bondState = .held ∨ a.bondState = .bonded ∨ a.bondState = .bondedSilent)
      ∧ a.partner.isSome = true ∧ a.partner = s.comm.held := by
  unfold consistent
  rw [Bool.and_eq_true, Bool.and_eq_true, decide_eq_true_iff, and_assoc]
  cases a.bondState <;> simp

theorem examineAnnounce_changed {a : AnnounceFields} (h : a.gradeClass ≠ s.bond.bondClass ∧ s.ret.freeze = false) :
    examineAnnounce a s = releasePartner .classChange (freeOrRejected s) s := if_pos h

/-- The state with the inconsistency count of an examination. -/
def counted (n : Nat) (s : State) : State := s.setBond { s.bond with inconsistency := n }

theorem examineAnnounce_counts {a : AnnounceFields} (h : ¬ (a.gradeClass ≠ s.bond.bondClass ∧ s.ret.freeze = false)) :
    examineAnnounce a s = if countAfter a s = 2 ∧ s.ret.freeze = false
      then releasePartner .inconsistent .free (counted (countAfter a s) s) else counted (countAfter a s) s := if_neg h

/-- A partner released: the engine has left the bond, and PAIR-EN is not asserted again. -/
theorem pairTest_released (own : Option Nat) (r : ReleaseReason) {next : BondState} {n : Nat}
    (hnext : bondStands next = false) (hb : s.ret.bondState ≠ .proposing) (he : s.ret.engaged = some n) :
    pairTest own (releasePartner r next s) = unengaged next (offering (byteOf n) 0x07#8 [releaseCode r] s) := by
  rw [releasePartner_engaged r next hb he,
    pairTest_not_standing (s := unengaged next (offering (byteOf n) 0x07#8 [releaseCode r] s)) own hnext]

theorem byteOf_src (b : Byte) : byteOf b.toNat = b := by simp [byteOf]

/-- The state a partner's ANNOUNCE is examined in: the partner heard, and its report taken (R152, R153). -/
def reported (a : AnnounceFields) (s : State) : State := takeReport a (partnerFresh s)

theorem bondTakesAnnounce_partner {a : AnnounceFields} (h : isPartner a.source s = true) :
    bondTakesAnnounce a s = pairTest (lastMillivolts (examineAnnounce a (reported a s))) (examineAnnounce a (reported a s)) := by
  unfold bondTakesAnnounce
  rw [if_pos h, partnerHeard_partner h]
  rfl

/-- Settles O47: the numbers heard and the table first, then the two examinations. -/
theorem partnerAnnounceIsExamined : Obligations.PartnerAnnounceIsExamined := by
  unfold Obligations.PartnerAnnounceIsExamined
  intro s f ht hk hs hin hstands hengaged a heard noted withdrawn v names changed released stands
  have hv : commTakesAnnounce f.src.toNat (popFrame s) = v := by
    have hwithdrawn : (claimWaits (popFrame s) = true ∧ (popFrame s).comm.claim.getD 0 ≤ f.src.toNat) ↔ withdrawn = true := by
      rw [claimWaits_iff, decide_eq_true_iff, and_assoc, and_assoc]
      exact Iff.rfl
    show _ = ite _ _ _
    split_ifs with hw
    · obtain ⟨hclaims, hle⟩ := hwithdrawn.2 hw
      exact (commTakesAnnounce_waits hclaims hle).trans rfl
    · exact (commTakesAnnounce_notes (mt hwithdrawn.1 hw)).trans rfl
  have hframe : ∃ link comm, v = { popFrame s with link := link, comm := comm } ∧ link.mode = s.link.mode
      ∧ comm.held = s.comm.held := by
    show ∃ link comm, ite _ _ _ = _ ∧ _
    split_ifs
    · exact ⟨_, _, rfl, withdrawFrame_mode _ _, rfl⟩
    · exact ⟨_, _, rfl, rfl, rfl⟩
  obtain ⟨link, comm, hv', hmode, hheld⟩ := hframe
  have hexec : exec .announce s = .next (settle (bondTakesAnnounce a (tableTakesAnnounce a v))) := by
    rw [exec_announce ht hk hs, hv, onceInForce_of (by rw [hv']; exact hin)]
  clear_value v
  subst hv'
  have htable : tableTakesAnnounce a { popFrame s with link := link, comm := comm } =
      { popFrame s with link := link, comm := comm, table := heard } := by
    by_cases hup : s.link.mode = .up
    · rw [tableTakesAnnounce_up _ (hmode.trans hup), show heard = _ from if_pos hup]
      rfl
    · rw [tableTakesAnnounce_not _ (fun h => hup (hmode.symm.trans h)), show heard = _ from if_neg hup]
      rfl
  generalize hu : ({ popFrame s with link := link, comm := comm, table := heard } : State) = u at htable
  have hpartner : isPartner a.source u = true := by
    subst hu
    exact (isPartner_iff _ _).2 ⟨hstands, hengaged⟩
  rw [htable, bondTakesAnnounce_partner hpartner] at hexec
  have hchanged : (a.gradeClass ≠ (reported a u).bond.bondClass ∧ (reported a u).ret.freeze = false) ↔ changed := by
    subst hu
    exact Iff.rfl
  have hnames : consistent a (reported a u) = true ↔ names := by
    rw [consistent_iff, show (reported a u).comm.held = s.comm.held by subst hu; exact hheld]
  have hbonded : (reported a u).ret.bondState ≠ .proposing := by show BondState.bonded ≠ _; decide
  have hpeer : (reported a u).ret.engaged = some f.src.toNat := by subst hu; exact hengaged
  have hclass : freeOrRejected (reported a u) = if s.grade.gradeClass = some .x then .rejected else .free := by subst hu; rfl
  have hreleased : ∀ r next t, t = counted t.bond.inconsistency (reported a u) →
      released (releaseCode r) next (unengaged next (offering (byteOf f.src.toNat) 0x07#8 [releaseCode r] t)) := fun r next t ht => by
    rw [ht, byteOf_src]
    subst hu
    refine ⟨?_, rfl, rfl, rfl, rfl, rfl, rfl⟩
    show offerFrame link ⟨f.src, byteOf (comm.held.getD 0), 0x07#8, [releaseCode r]⟩ = _
    rw [hheld]
  have hstays : ∀ n, stands n (pairTest (lastMillivolts (counted n (reported a u))) (counted n (reported a u))) := fun n => by
    have hpair := pairTest_pairEn_iff (s := counted n (reported a u)) (lastMillivolts (counted n (reported a u))) rfl
    rw [pairTestPasses_last (voltage := a.voltage) (heard := u.seconds) rfl] at hpair
    refine ⟨?_, ?_, ?_, ?_, ?_, ?_, ?_, ?_, hpair.trans (or_congr ?_ ?_)⟩
    case refine_9 => subst hu; exact Iff.rfl
    case refine_10 =>
      subst hu
      exact ⟨fun ⟨h1, h2, _⟩ => ⟨h1, h2⟩, fun ⟨h1, h2⟩ => ⟨h1, h2, Nat.le_add_right _ _⟩⟩
    all_goals
      rw [pairTest_eq]
      subst hu
      rfl
  have hcounts : ¬ changed → examineAnnounce a (reported a u) = if countAfter a (reported a u) = 2 ∧ s.ret.freeze = false
      then releasePartner .inconsistent .free (counted (countAfter a (reported a u)) (reported a u))
      else counted (countAfter a (reported a u)) (reported a u) := fun hc => by
    rw [examineAnnounce_counts (mt hchanged.1 hc)]
    subst hu
    rfl
  have hcount : ¬ names → countAfter a (reported a u) = min 2 (s.bond.inconsistency + 1) := fun hn => by
    refine (if_neg (mt hnames.1 hn)).trans ?_
    subst hu
    rfl
  refine ⟨fun hc hx => ?_, fun hc hx => ?_, fun hc hn => ?_, fun hc hn hor => ?_, fun hc hn h1 hf => ?_⟩
  · rw [examineAnnounce_changed (hchanged.2 hc), hclass, if_pos hx, pairTest_released _ _ rfl hbonded hpeer] at hexec
    exact ⟨_, hexec, hreleased .classChange .rejected (reported a u) rfl⟩
  · rw [examineAnnounce_changed (hchanged.2 hc), hclass, if_neg hx, pairTest_released _ _ rfl hbonded hpeer] at hexec
    exact ⟨_, hexec, hreleased .classChange .free (reported a u) rfl⟩
  · have hzero : countAfter a (reported a u) = 0 := if_pos (hnames.2 hn)
    rw [hcounts hc, hzero, if_neg fun h => absurd h.1 (by decide)] at hexec
    exact ⟨_, hexec, hstays 0⟩
  · rw [hcounts hc, hcount hn, if_neg] at hexec
    · exact ⟨_, hexec, hstays _⟩
    · rintro ⟨h2, hf⟩
      rcases hor with h | h
      · rw [h] at h2
        exact absurd h2 (by decide)
      · exact Bool.false_ne_true (hf.symm.trans h)
  · rw [hcounts hc, hcount hn, if_pos ⟨by omega, hf⟩,
      pairTest_released (s := counted (min 2 (s.bond.inconsistency + 1)) (reported a u)) _ .inconsistent (next := .free) rfl hbonded
        hpeer] at hexec
    exact ⟨_, hexec, hreleased .inconsistent .free (counted _ (reported a u)) rfl⟩

end Sys2Proof.Machine
end

section
/-! SUPPORT. The five frames of the handshake (R144 to R151, R153, R155), each as its answer, its entry or its exit. Settles O48, O49
and O50. -/

namespace Sys2Proof.Machine

variable {s : State} {f : Frame}

/-! ## The frame processor and the hand-ons -/

theorem fpFree_offer (g : State → Frame) (h : ∀ x s, g (s.setFp x) = g s) : FpFree (fun s => offer (g s) s) := fun x s => by
  show offer (g (s.setFp x)) (s.setFp x) = _
  rw [h]
  rfl

theorem fpFree_crossProposal (n : Nat) : FpFree (crossProposal n) := fun x s => by
  have hwithdraw := (bystander_setFp x).withdrawPropose (offer (acceptFrame s n) s)
  have hcross : crossProposal n (s.setFp x) = if lowerThan n s = true
      then enterHeld n (withdrawPropose ((offer (acceptFrame s n) s).setFp x)) else s.setFp x := rfl
  rw [hcross, hwithdraw, crossProposal, apply_ite (fun t : State => t.setFp x)]
  rfl

theorem fpFree_judgeProposal (n epoch : Nat) : FpFree (judgeProposal n epoch) := fun x s => by
  have hsame : acceptanceFailure n epoch (s.setFp x) = acceptanceFailure n epoch s := rfl
  unfold judgeProposal
  rw [hsame]
  cases acceptanceFailure n epoch s <;> rfl

theorem fpFree_bondTakesPropose (n epoch : Nat) : FpFree (bondTakesPropose n epoch) := fun x s => by
  simp only [bondTakesPropose, State.setFp_ret, fpFree_judgeProposal n epoch x, fpFree_crossProposal n x]
  cases s.ret.bondState <;> simp only [apply_ite (fun t : State => t.setFp x)] <;> rfl

/-- The state BONDED is entered with, before the PAIR-EN test (R152). -/
def bondEntered (n : Nat) (s : State) : State := { s with
  dom := { s.dom with ret := { s.ret with bondState := .bonded, engaged := some n } }
  bond := { s.bond with
    replyTimer := none
    holdTimer := none
    partnerTimer := some ((prof s).partnerTimeout * (prof s).announceInterval)
    inconsistency := 0
    bondClass := s.grade.gradeClass
    report := (entryOf s.table n).map (fun e => ⟨e.voltage, e.lastHeard⟩)
    proposeTaken := false } }

theorem enterBonded_eq (n : Nat) (s : State) :
    enterBonded n s = pairTest (lastMillivolts (bondEntered n s)) (bondEntered n s) := rfl

theorem fpFree_enterBonded (n : Nat) : FpFree (enterBonded n) :=
  FpFree.comp (op := bondEntered n) (fun _ _ => rfl) (fpFree_pairTest lastMillivolts fun _ _ => rfl)

theorem fpFree_unlessPartner (n : Nat) : FpFree (fun s => if isPartner n s = true then s else answerLate n s) :=
  .ite (p := fun s => isPartner n s = true) (fun _ _ => Iff.rfl) .refl fun _ _ => rfl

theorem fpFree_bondTakesAccept (n : Nat) : FpFree (bondTakesAccept n) :=
  .ite (p := fun s => engagedWith .proposing n s = true) (fun _ _ => Iff.rfl)
    (FpFree.comp (op := fun s => offer (confirmFrame s n) s) (fun _ _ => rfl) (fpFree_enterBonded n)) (fpFree_unlessPartner n)

theorem fpFree_bondTakesConfirm (n : Nat) : FpFree (bondTakesConfirm n) :=
  .ite (p := fun s => engagedWith .held n s = true) (fun _ _ => Iff.rfl) (fpFree_enterBonded n) (fpFree_unlessPartner n)

theorem fpFree_bondTakesDecline (n : Nat) (r : DeclineReason) : FpFree (bondTakesDecline n r) :=
  .ite (p := fun s => engagedWith .proposing n s = true) (fun _ _ => Iff.rfl)
    (fun x s => (bystander_setFp x).disengageMarked s n r) .refl

theorem fpFree_bondTakesRelease (n : Nat) (late : Bool) : FpFree (bondTakesRelease n late) :=
  .ite (p := fun s => engagedWith .proposing n s = true) (fun _ _ => Iff.rfl)
    (fun x s => (bystander_setFp x).disengageMarked s n .busy) <|
  .ite (p := fun s => engagedWith .held n s = true) (fun _ _ => Iff.rfl) (fpFree_disengage .free) <|
  .ite (p := fun s => isPartner n s = true ∧ (s.ret.freeze = false ∨ late = true)) (fun _ _ => Iff.rfl) (fpFree_disengage .free)
    .refl

/-! ## The frame commands of the bond engine -/

theorem exec_propose (ht : takes s f) (hk : f.kind = 0x03#8) (hin : s.ret.inForce = true) : exec .propose s =
    .next (settle (bondTakesPropose f.src.toNat (u8 f.payload 2) (partnerHeard f.src.toNat (popFrame s)))) :=
  (frameStep_takes (handOn := handPropose) ht (ofKind_iff.2 hk)
    ((fpFree_partnerHeard _).comp (fpFree_bondTakesPropose _ _)).onceInForce).trans
      (congrArg (fun t => Host.Outcome.next (settle t)) (if_pos hin))

theorem exec_accept (ht : takes s f) (hk : f.kind = 0x04#8) (hin : s.ret.inForce = true) : exec .accept s =
    .next (settle (bondTakesAccept f.src.toNat (partnerHeard f.src.toNat (popFrame s)))) :=
  (frameStep_takes (handOn := handAccept) ht (ofKind_iff.2 hk)
    ((fpFree_partnerHeard _).comp (fpFree_bondTakesAccept _)).onceInForce).trans
      (congrArg (fun t => Host.Outcome.next (settle t)) (if_pos hin))

theorem exec_confirm (ht : takes s f) (hk : f.kind = 0x06#8) (hin : s.ret.inForce = true) : exec .confirm s =
    .next (settle (bondTakesConfirm f.src.toNat (partnerHeard f.src.toNat (popFrame s)))) :=
  (frameStep_takes (handOn := handConfirm) ht (ofKind_iff.2 hk)
    ((fpFree_partnerHeard _).comp (fpFree_bondTakesConfirm _)).onceInForce).trans
      (congrArg (fun t => Host.Outcome.next (settle t)) (if_pos hin))

theorem exec_decline (ht : takes s f) (hk : f.kind = 0x05#8) (hin : s.ret.inForce = true) : exec .decline s =
    .next (settle (bondTakesDecline f.src.toNat ((declineOfCode (u8 f.payload 0)).getD .busy)
      (partnerHeard f.src.toNat (popFrame s)))) :=
  (frameStep_takes (handOn := handDecline) ht (ofKind_iff.2 hk)
    ((fpFree_partnerHeard _).comp (fpFree_bondTakesDecline _ _)).onceInForce).trans
      (congrArg (fun t => Host.Outcome.next (settle t)) (if_pos hin))

theorem exec_release (ht : takes s f) (hk : f.kind = 0x07#8) (hin : s.ret.inForce = true) : exec .release s =
    .next (settle (bondTakesRelease f.src.toNat (reasonIsLate f) (partnerHeard f.src.toNat (popFrame s)))) :=
  (frameStep_takes (handOn := handRelease) ht (ofKind_iff.2 hk)
    ((fpFree_partnerHeard _).comp (fpFree_bondTakesRelease _ _)).onceInForce).trans
      (congrArg (fun t => Host.Outcome.next (settle t)) (if_pos hin))

/-! ## Who has been heard -/

theorem partnerHeard_not {x : Nat} (h : ¬ (bondStands s.ret.bondState = true ∧ s.ret.engaged = some x)) :
    partnerHeard x s = s := partnerHeard_other (Bool.eq_false_iff.2 (mt (isPartner_iff x s).1 h))

theorem partnerHeard_of {x : Nat} (hb : bondStands s.ret.bondState = true) (he : s.ret.engaged = some x) :
    partnerHeard x s = partnerFresh s := partnerHeard_partner ((isPartner_iff x s).2 ⟨hb, he⟩)

theorem engagedWith_iff {b : BondState} {x : Nat} : engagedWith b x s = true ↔ s.ret.bondState = b ∧ s.ret.engaged = some x :=
  decide_eq_true_iff

/-! ## A PROPOSE -/

/-- A DECLINE with its reason (R145). -/
theorem offer_decline (x : Nat) (r : DeclineReason) (s : State) :
    offer (declineFrame s x r) s = offering (byteOf x) 0x05#8 [declineCode r] s := rfl

theorem bondTakesPropose_stands {x epoch : Nat} (h : bondStands s.ret.bondState = true) :
    bondTakesPropose x epoch s = offering (byteOf x) 0x05#8 [0x01#8] s := by
  unfold bondTakesPropose
  rcases (bondStands_iff _).1 h with h | h <;> rw [h] <;> rfl

/-- The freeze flag declines in every state without a bond (R145). -/
theorem bondTakesPropose_frozen {x epoch : Nat} (h : bondStands s.ret.bondState = false) (hf : s.ret.freeze = true) :
    bondTakesPropose x epoch s = offering (byteOf x) 0x05#8 [0x05#8] s := by
  unfold bondTakesPropose
  rw [if_pos hf, if_pos hf, if_pos hf, if_pos hf, if_pos hf]
  cases hb : s.ret.bondState
  case bonded => rw [hb] at h; cases h
  case bondedSilent => rw [hb] at h; cases h
  all_goals rfl

theorem bondTakesPropose_unfrozen {x epoch : Nat} (hf : s.ret.freeze = false) : bondTakesPropose x epoch s =
    match s.ret.bondState with
    | .bonded => offering (byteOf x) 0x05#8 [0x01#8] s
    | .bondedSilent => offering (byteOf x) 0x05#8 [0x01#8] s
    | .unready => offering (byteOf x) 0x05#8 [0x04#8] s
    | .rejected => offering (byteOf x) 0x05#8 [0x06#8] s
    | .held => offering (byteOf x) 0x05#8 [0x02#8] s
    | .proposing => if s.ret.engaged = some x then crossProposal x s else offering (byteOf x) 0x05#8 [0x02#8] s
    | .free => judgeProposal x epoch s := by
  have hno : ¬ s.ret.freeze = true := fun h => Bool.false_ne_true (hf.symm.trans h)
  unfold bondTakesPropose
  cases s.ret.bondState <;> simp only [if_neg hno] <;> rfl

theorem lowerThan_iff {n x : Nat} (h : s.comm.held = some n) : lowerThan x s = true ↔ n < x := by
  rw [lowerThan, h]
  exact decide_eq_true_iff

theorem judgeProposal_fails {x epoch : Nat} {r : DeclineReason} (h : acceptanceFailure x epoch s = some r) :
    judgeProposal x epoch s = offering (byteOf x) 0x05#8 [declineCode r] s := by
  rw [judgeProposal, h]
  rfl

theorem judgeProposal_accepts {x epoch : Nat} (h : acceptanceFailure x epoch s = none) :
    judgeProposal x epoch s = enterHeld x (offering (byteOf x) 0x04#8 [byteOf s.grade.epoch] s) := by
  rw [judgeProposal, h]
  rfl

/-- The tests of R144 in their order, on the proposer's entry. -/
theorem acceptanceFailure_entry {x epoch : Nat} {e : PeerEntry} (he : entryOf s.table x = some e) :
    acceptanceFailure x epoch s =
      if e.epoch ≠ epoch then some .stale
      else if eligible (prof s) s.grade e = false then some .ineligible
      else if withinMargin e s = false then some .rank
      else none := by
  rw [acceptanceFailure, he]

theorem withinMargin_nil {e : PeerEntry} (h : candidates (prof s) s.grade s.table = []) : withinMargin e s = true := by
  rw [withinMargin, h]

theorem withinMargin_cons {e g : PeerEntry} {rest : List PeerEntry} (h : candidates (prof s) s.grade s.table = g :: rest) :
    withinMargin e s = true ↔ e.score.getD 0 ≤ g.score.getD 0 + (prof s).acceptanceMargin := by
  rw [withinMargin, h]
  exact decide_eq_true_iff

/-- Settles O48: the rows of R145 in order, the crossing rule, and the tests of R144. -/
theorem proposeIsAnswered : Obligations.ProposeIsAnswered := by
  unfold Obligations.ProposeIsAnswered
  intro s f ht hk hin x v busy crossing declines accepts offered free
  have hexec : exec .propose s = .next (settle (bondTakesPropose x (u8 f.payload 2) (partnerHeard x v))) := exec_propose ht hk hin
  have hother : ¬ (bondStands s.ret.bondState = true ∧ s.ret.engaged = some x) →
      exec .propose s = .next (settle (bondTakesPropose x (u8 f.payload 2) v)) := fun h => by
    rw [hexec, partnerHeard_not (s := v) h]
  have hnot : ∀ {b}, s.ret.bondState = b → bondStands b = false →
      ¬ (bondStands s.ret.bondState = true ∧ s.ret.engaged = some x) := fun hb h h' => by
    rw [hb, h] at h'
    exact Bool.false_ne_true h'.1
  have hstate : ∀ b, s.ret.bondState = b → bondStands b = false → s.ret.freeze = false →
      exec .propose s = .next (settle (match b with
        | .bonded => offering (byteOf x) 0x05#8 [0x01#8] v
        | .bondedSilent => offering (byteOf x) 0x05#8 [0x01#8] v
        | .unready => offering (byteOf x) 0x05#8 [0x04#8] v
        | .rejected => offering (byteOf x) 0x05#8 [0x06#8] v
        | .held => offering (byteOf x) 0x05#8 [0x02#8] v
        | .proposing => if s.ret.engaged = some x then crossProposal x v else offering (byteOf x) 0x05#8 [0x02#8] v
        | .free => judgeProposal x (u8 f.payload 2) v)) := fun b hb hs hf => by
    rw [hother (hnot hb hs), bondTakesPropose_unfrozen (s := v) hf]
    subst hb
    rfl
  have hsrc : byteOf x = f.src := byteOf_src f.src
  have hjudge : free → exec .propose s = .next (settle (judgeProposal x (u8 f.payload 2) v)) := fun ⟨hb, hf⟩ =>
    hstate .free hb rfl hf
  have hdeclines : free → ∀ r, acceptanceFailure x (u8 f.payload 2) s = some r → declines (declineCode r) := fun h r hr => by
    show exec .propose s = _
    rw [hjudge h, judgeProposal_fails (s := v) hr, hsrc]
  have haccepts : free → acceptanceFailure x (u8 f.payload 2) s = none → exec .propose s = .next (settle (accepts offered)) :=
    fun h hr => by
      rw [hjudge h, judgeProposal_accepts (s := v) hr, hsrc]
      rfl
  refine ⟨fun hb he => ?_, fun hb he => ?_, fun hb hf => ?_, fun hb hf => ?_, fun hb hf => ?_, fun hb hf => ?_,
    fun ⟨hb, he, hf⟩ n hn => ⟨fun hlt => ?_, fun hge => ?_⟩, fun h hnone => ?_, fun h e he => ⟨fun h1 => ?_, fun h1 h2 => ?_,
      fun h1 h2 => ⟨fun hc => ?_, fun g rest hc => ⟨fun hm => ?_, fun hm => ?_⟩⟩⟩⟩
  · show exec .propose s = _
    rw [hother fun h => he h.2, bondTakesPropose_stands (s := v) hb, hsrc]
  · rw [hexec, partnerHeard_of (s := v) hb he, bondTakesPropose_stands (s := partnerFresh v) rfl, hsrc]
  · show exec .propose s = _
    rw [hother fun h => Bool.false_ne_true (hb.symm.trans h.1), bondTakesPropose_frozen (s := v) hb hf, hsrc]
  · show exec .propose s = _
    rw [hstate _ hb rfl hf, hsrc]
  · show exec .propose s = _
    rw [hstate _ hb rfl hf, hsrc]
  · show exec .propose s = _
    rcases hb with hb | ⟨hb, he⟩
    · rw [hstate _ hb rfl hf, hsrc]
    · rw [hstate _ hb rfl hf, if_neg he, hsrc]
  · have hwithdraw : withdrawPropose (offering (byteOf x) 0x04#8 [byteOf s.grade.epoch] v) =
        withoutPropose x (offering (byteOf x) 0x04#8 [byteOf s.grade.epoch] v) := withdrawPropose_proposing hb he
    have hcross : crossProposal x v = enterHeld x (withdrawPropose (offering (byteOf x) 0x04#8 [byteOf s.grade.epoch] v)) :=
      if_pos ((lowerThan_iff (s := v) hn).2 hlt)
    rw [hstate _ hb rfl hf, if_pos he, hcross, hwithdraw, hsrc]
    rfl
  · have hcross : crossProposal x v = v := if_neg fun h => absurd ((lowerThan_iff (s := v) hn).1 h) (Nat.not_lt.2 hge)
    rw [hstate _ hb rfl hf, if_pos he, hcross]
  · exact hdeclines h .unknown (by rw [acceptanceFailure, hnone])
  · exact hdeclines h .stale (by rw [acceptanceFailure_entry he, if_pos h1])
  · exact hdeclines h .ineligible (by rw [acceptanceFailure_entry he, if_neg (not_not_intro h1), if_pos h2])
  all_goals have hlast := acceptanceFailure_entry (epoch := u8 f.payload 2) he
  all_goals rw [if_neg (not_not_intro h1), if_neg (by rw [h2]; decide)] at hlast
  · exact haccepts h (by rw [hlast, withinMargin_nil hc, if_neg (by decide)])
  · exact hdeclines h .rank (by
      rw [hlast, if_pos (Bool.eq_false_iff.2 fun hw => absurd ((withinMargin_cons hc).1 hw) (Nat.not_le.2 hm))])
  · exact haccepts h (by rw [hlast, (withinMargin_cons hc).2 hm, if_neg (by decide)])

/-! ## ACCEPT and CONFIRM -/

/-- Without an entry of the partner there is no report, and PAIR-EN stays as it is. -/
theorem enterBonded_unknown {n : Nat} (h : entryOf s.table n = none) : enterBonded n s = bondEntered n s := by
  have hnone : (bondEntered n s).bond.report.bind (fun r => r.voltage) = none := by
    show ((entryOf s.table n).map _).bind _ = none
    rw [h]
    rfl
  rw [enterBonded_eq, pairTest_eq, pairTestPasses_without _ hnone, Bool.and_false, Bool.or_false]
  rfl

theorem enterBonded_pairEn_iff {n : Nat} {e : PeerEntry} (h : entryOf s.table n = some e) :
    (enterBonded n s).bond.pairEn = true ↔ s.bond.pairEn = true ∨
      ((s.fe.lastVoltage.isSome = true ∧ e.voltage.isSome = true)
        ∧ absDiff ((s.fe.lastVoltage.map (fun y => y.mv)).getD 0) (e.voltage.getD 0) ≤ (prof s).joinLimit
        ∧ s.seconds ≤ e.lastHeard + 2 * (prof s).announceInterval) := by
  have hreport : (bondEntered n s).bond.report = some ⟨e.voltage, e.lastHeard⟩ := by
    show (entryOf s.table n).map _ = _
    rw [h]
    rfl
  rw [enterBonded_eq, pairTest_pairEn_iff _ rfl, pairTestPasses_last hreport]
  exact Iff.rfl

/-- An ACCEPT or a CONFIRM that forms no bond is the partner's, or late (R147, R150). -/
theorem bondTakesAccept_no_target {x : Nat} (h : ¬ (s.ret.bondState = .proposing ∧ s.ret.engaged = some x)) :
    bondTakesAccept x s = if isPartner x s = true then s else offering (byteOf x) 0x07#8 [0x01#8] s :=
  if_neg (mt engagedWith_iff.1 h)

theorem bondTakesConfirm_no_proposer {x : Nat} (h : ¬ (s.ret.bondState = .held ∧ s.ret.engaged = some x)) :
    bondTakesConfirm x s = if isPartner x s = true then s else offering (byteOf x) 0x07#8 [0x01#8] s :=
  if_neg (mt engagedWith_iff.1 h)

/-- Settles O49: the entry to BONDED, the partner heard, or RELEASE LATE. -/
theorem bondIsFormed : Obligations.BondIsFormed := by
  unfold Obligations.BondIsFormed
  intro s f ht hin x v partner late bonded
  have hsrc : byteOf x = f.src := byteOf_src f.src
  have hentered : ∀ l, bonded (enterBonded x { v with link := l }) ∧ (enterBonded x { v with link := l }).link = l := fun l => by
    refine ⟨⟨?_, ?_, ?_, ?_, ?_, ?_, ?_, ?_, ?_, fun hnone => ?_, fun e he => ⟨?_, enterBonded_pairEn_iff (s := { v with link := l }) he⟩⟩, ?_⟩
    case refine_10 => exact enterBonded_unknown (s := { v with link := l }) hnone ▸ ⟨congrArg (Option.map _) hnone, rfl⟩
    case refine_11 =>
      rw [enterBonded_eq, pairTest_eq]
      exact congrArg (Option.map _) he
    all_goals
      rw [enterBonded_eq, pairTest_eq]
      rfl
  have hpartner : partner → isPartner x (partnerFresh v) = true := fun ⟨_, he⟩ => (isPartner_iff _ _).2 ⟨rfl, he⟩
  have hnone : ∀ {b}, s.ret.bondState = b → bondStands b = false → ¬ partner := fun hb h hp => by
    rw [← hb] at h
    exact Bool.false_ne_true (h.symm.trans hp.1)
  have hother : ¬ partner → isPartner x v = false := fun h => Bool.eq_false_iff.2 (mt (isPartner_iff _ _).1 h)
  have hfresh : ∀ b, bondStands b = false → ¬ ((partnerFresh v).ret.bondState = b ∧ (partnerFresh v).ret.engaged = some x) :=
    fun b h hb => by
      rw [← hb.1] at h
      exact Bool.noConfusion (show true = false from h)
  refine ⟨fun hk hb he => ?_, fun hk hb he => ?_, fun hk hp => ?_, fun hk hp => ?_, fun hk hp hno => ?_, fun hk hp hno => ?_⟩
  · refine ⟨_, ?_, hentered (offerFrame v.link ⟨f.src, byteOf (s.comm.held.getD 0), 0x06#8, [byteOf s.grade.epoch]⟩)⟩
    have htarget : bondTakesAccept x v = enterBonded x (offering (byteOf x) 0x06#8 [byteOf s.grade.epoch] v) :=
      if_pos (engagedWith_iff.2 ⟨hb, he⟩)
    rw [exec_accept ht hk hin, partnerHeard_not (s := v) (hnone hb rfl), htarget, hsrc]
    rfl
  · refine ⟨_, ?_, hentered v.link⟩
    have hproposer : bondTakesConfirm x v = enterBonded x v := if_pos (engagedWith_iff.2 ⟨hb, he⟩)
    rw [exec_confirm ht hk hin, partnerHeard_not (s := v) (hnone hb rfl), hproposer]
  · rw [exec_accept ht hk hin, partnerHeard_of (s := v) hp.1 hp.2, bondTakesAccept_no_target (hfresh _ rfl), if_pos (hpartner hp)]
  · rw [exec_confirm ht hk hin, partnerHeard_of (s := v) hp.1 hp.2, bondTakesConfirm_no_proposer (hfresh _ rfl), if_pos (hpartner hp)]
  · rw [exec_accept ht hk hin, partnerHeard_not (s := v) hp, bondTakesAccept_no_target (s := v) hno, hother hp,
      if_neg Bool.false_ne_true, hsrc]
  · rw [exec_confirm ht hk hin, partnerHeard_not (s := v) hp, bondTakesConfirm_no_proposer (s := v) hno, hother hp,
      if_neg Bool.false_ne_true, hsrc]

/-! ## DECLINE and RELEASE -/

theorem releaseOfCode_late {n : Nat} : releaseOfCode n = some .late ↔ n = 1 := by
  unfold releaseOfCode
  split <;> simp_all

theorem reasonIsLate_iff (hp : f.payload.length = 1) : reasonIsLate f = true ↔ f.payload = [0x01#8] := by
  obtain ⟨b, hb⟩ := List.length_eq_one_iff.1 hp
  rw [reasonIsLate, decide_eq_true_iff, releaseOfCode_late, hb]
  show b.toNat = 1 ↔ _
  rw [List.cons.injEq]
  exact ⟨fun h => ⟨BitVec.eq_of_toNat_eq h, rfl⟩, fun h => by rw [h.1]; rfl⟩

/-- A well-formed RELEASE carries its reason and nothing else (R108). -/
theorem release_payload_length (hw : wellFormed f = true) (hk : f.kind = 0x07#8) : f.payload.length = 1 := by
  unfold wellFormed at hw
  rw [show f.kind.toNat = 7 by rw [hk]; rfl] at hw
  simp only [Bool.and_eq_true, decide_eq_true_eq] at hw
  exact hw.1.2

/-- A handshake's exit on a partner that has just been heard is that of the partner. -/
theorem unengaged_partnerFresh (next : BondState) (s : State) : unengaged next (partnerFresh s) = unengaged next s := rfl

theorem bondTakesRelease_other {x : Nat} {late : Bool} (ht : ¬ (s.ret.bondState = .proposing ∧ s.ret.engaged = some x))
    (hp : ¬ (s.ret.bondState = .held ∧ s.ret.engaged = some x)) : bondTakesRelease x late s =
      if isPartner x s = true ∧ (s.ret.freeze = false ∨ late = true) then disengage .free s else s := by
  unfold bondTakesRelease
  rw [if_neg (mt engagedWith_iff.1 ht), if_neg (mt engagedWith_iff.1 hp)]

/-- Settles O50: the target's mark, the exits, or no effect but the partner's timer. -/
theorem declineAndRelease : Obligations.DeclineAndRelease := by
  unfold Obligations.DeclineAndRelease
  intro s f ht hin x v target proposer partner
  have hlen : f.kind = 0x07#8 → f.payload.length = 1 := fun hk => release_payload_length ht.2.2 hk
  have hnone : ∀ {b}, s.ret.bondState = b → bondStands b = false → ¬ partner := fun hb h hp => by
    rw [← hb] at h
    exact Bool.false_ne_true (h.symm.trans hp.1)
  have hfresh : ∀ b, bondStands b = false → ¬ ((partnerFresh v).ret.bondState = b ∧ (partnerFresh v).ret.engaged = some x) :=
    fun b h hb => by
      rw [← hb.1] at h
      exact Bool.noConfusion (show true = false from h)
  have hpartner : partner → isPartner x (partnerFresh v) = true := fun ⟨_, he⟩ => (isPartner_iff _ _).2 ⟨rfl, he⟩
  have hmarked : target → ∀ r, disengageMarked x r v = unengaged .free (marked x r (withoutPropose x v)) :=
    fun ⟨hb, he⟩ r => disengageMarked_proposing (s := v) r hb he
  refine ⟨fun hk h r hr => ?_, fun hk hno hp => ?_, fun hk hp => ?_, fun hk h => ?_, fun hk h => ?_, fun hk hp hor => ?_,
    fun hk hp hf hlate => ?_, fun hk hno hno' hp => ?_⟩
  · have hdecline : ∀ r, bondTakesDecline x r v = disengageMarked x r v := fun r => if_pos (engagedWith_iff.2 h)
    rw [exec_decline ht hk hin, partnerHeard_not (s := v) (hnone h.1 rfl), hr, hdecline, hmarked h]
    rfl
  · have hdecline : ∀ r, bondTakesDecline x r v = v := fun r => if_neg (mt engagedWith_iff.1 hno)
    rw [exec_decline ht hk hin, partnerHeard_not (s := v) hp, hdecline]
  · have hdecline : ∀ r, bondTakesDecline x r (partnerFresh v) = partnerFresh v := fun r =>
      if_neg (mt engagedWith_iff.1 (hfresh .proposing rfl))
    rw [exec_decline ht hk hin, partnerHeard_of (s := v) hp.1 hp.2, hdecline]
  · have hrelease : bondTakesRelease x (reasonIsLate f) v = disengageMarked x .busy v := if_pos (engagedWith_iff.2 h)
    rw [exec_release ht hk hin, partnerHeard_not (s := v) (hnone h.1 rfl), hrelease, hmarked h]
  · have hrelease : bondTakesRelease x (reasonIsLate f) v = disengage .free v := by
      have hno : ¬ engagedWith .proposing x v = true := fun ht => by
        have := h.1.symm.trans (engagedWith_iff.1 ht).1
        cases this
      exact (if_neg hno).trans (if_pos (engagedWith_iff.2 h))
    have hnot : v.ret.bondState ≠ .proposing := fun hb => by cases h.1.symm.trans hb
    rw [exec_release ht hk hin, partnerHeard_not (s := v) (hnone h.1 rfl), hrelease, disengage_of_not_proposing _ hnot]
  · have hcond : isPartner x (partnerFresh v) = true ∧ ((partnerFresh v).ret.freeze = false ∨ reasonIsLate f = true) :=
      ⟨hpartner hp, hor.imp id (reasonIsLate_iff (hlen hk)).2⟩
    rw [exec_release ht hk hin, partnerHeard_of (s := v) hp.1 hp.2,
      bondTakesRelease_other (hfresh _ rfl) (hfresh _ rfl), if_pos hcond,
      disengage_of_not_proposing (s := partnerFresh v) _ (by show BondState.bonded ≠ _; decide), unengaged_partnerFresh]
  · have hcond : ¬ (isPartner x (partnerFresh v) = true ∧ ((partnerFresh v).ret.freeze = false ∨ reasonIsLate f = true)) := by
      rintro ⟨-, hfree | hl⟩
      · exact Bool.false_ne_true (hfree.symm.trans hf)
      · exact hlate ((reasonIsLate_iff (hlen hk)).1 hl)
    rw [exec_release ht hk hin, partnerHeard_of (s := v) hp.1 hp.2,
      bondTakesRelease_other (hfresh _ rfl) (hfresh _ rfl), if_neg hcond]
  · rw [exec_release ht hk hin, partnerHeard_not (s := v) hp, bondTakesRelease_other (s := v) hno hno',
      if_neg fun h => hp ((isPartner_iff _ _).1 h.1)]

end Sys2Proof.Machine
end

section
/-! SUPPORT. The grade-bearing payloads at their bytes (R106, R115, R195). Settles O51 and O52. -/

namespace Sys2Proof.Machine

variable {s : State} {f : Frame}

/-! ## Fields of a payload -/

theorem flagBit_getLsbD (b : Bool) {i : Nat} (hi : i < 8) (j : Nat) : (flagBit b i).getLsbD j = (b && decide (i = j)) := by
  cases b
  · simp [flagBit]
  · simp [flagBit, BitVec.getLsbD_twoPow, hi]

theorem flagsByte_bits (s : State) :
    (flagsByte s).getLsbD 7 = s.grade.capacity.isSome ∧ (flagsByte s).getLsbD 6 = s.grade.r25c.isSome
      ∧ (flagsByte s).getLsbD 5 = s.grade.sd.isSome ∧ (flagsByte s).getLsbD 4 = s.fe.integrityFlag
      ∧ (flagsByte s).getLsbD 3 = s.link.overrunFlag ∧ (flagsByte s).getLsbD 2 = s.ret.freeze
      ∧ (flagsByte s).getLsbD 1 = s.ret.coldMarker ∧ (flagsByte s).getLsbD 0 = s.link.lineFault := by
  simp only [flagsByte, BitVec.getLsbD_or, flagBit_getLsbD _ (show 7 < 8 by decide), flagBit_getLsbD _ (show 6 < 8 by decide),
    flagBit_getLsbD _ (show 5 < 8 by decide), flagBit_getLsbD _ (show 4 < 8 by decide), flagBit_getLsbD _ (show 3 < 8 by decide),
    flagBit_getLsbD _ (show 2 < 8 by decide), flagBit_getLsbD _ (show 1 < 8 by decide), flagBit_getLsbD _ (show 0 < 8 by decide)]
  simp

theorem classCode_toNat (c : Option GradeClass) : (classCode c).toNat = match c with
    | none => 0
    | some k => classRank k + 1 := by
  rcases c with _ | k
  · rfl
  · cases k <;> rfl

theorem classCode_le (c : Option GradeClass) : (classCode c).toNat ≤ 4 := by
  rcases c with _ | k
  · decide
  · cases k <;> decide

theorem classOfCode_classCode (c : Option GradeClass) : classOfCode (classCode c).toNat = c := by
  rcases c with _ | k
  · rfl
  · cases k <;> rfl

theorem bondOfCode_bondCode (b : BondState) : bondOfCode (bondCode b).toNat = some b := by
  cases b <;> rfl

section Fields

variable {p : List Byte} {i : Nat}

/-- An optional field of three bytes: its value where it is present and in range, 0 where it is absent. -/
theorem u24_of_optional {o : Option Nat} (h0 : p.getD i 0 = BitVec.ofNat 8 (o.getD 0 / 65536))
    (h1 : p.getD (i + 1) 0 = BitVec.ofNat 8 (o.getD 0 / 256)) (h2 : p.getD (i + 2) 0 = BitVec.ofNat 8 (o.getD 0)) :
    (∀ c, o = some c → c ≤ 16777215 → u24 p i = c) ∧ (o = none → u24 p i = 0) := by
  refine ⟨fun c hc hle => ?_, fun hc => ?_⟩
  · rw [hc] at h0 h1 h2
    exact u24_of_be24 h0 h1 h2 (Nat.lt_succ_of_le hle)
  · rw [hc] at h0 h1 h2
    exact u24_of_be24 h0 h1 h2 (by norm_num)

/-- An optional field of two bytes: its value where it is present and in range, 0 where it is absent. -/
theorem u16_of_optional {o : Option Nat} (h0 : p.getD i 0 = BitVec.ofNat 8 (o.getD 0 / 256))
    (h1 : p.getD (i + 1) 0 = BitVec.ofNat 8 (o.getD 0)) :
    (∀ c, o = some c → c ≤ 65535 → u16 p i = c) ∧ (o = none → u16 p i = 0) := by
  refine ⟨fun c hc hle => ?_, fun hc => ?_⟩
  · rw [hc] at h0 h1
    exact u16_of_be16 h0 h1 (Nat.lt_succ_of_le hle)
  · rw [hc] at h0 h1
    exact u16_of_be16 h0 h1 (by norm_num)

/-- A field of three bytes under its presence flag gives back the optional item. -/
theorem flagged_u24 {o : Option Nat} (h0 : p.getD i 0 = BitVec.ofNat 8 (o.getD 0 / 65536))
    (h1 : p.getD (i + 1) 0 = BitVec.ofNat 8 (o.getD 0 / 256)) (h2 : p.getD (i + 2) 0 = BitVec.ofNat 8 (o.getD 0))
    (hle : ∀ c, o = some c → c ≤ 16777215) : (if o.isSome = true then some (u24 p i) else none) = o := by
  cases ho : o with
  | none => rfl
  | some c => exact congrArg some ((u24_of_optional h0 h1 h2).1 c ho (hle c ho))

/-- A field of two bytes under its presence flag gives back the optional item. -/
theorem flagged_u16 {o : Option Nat} (h0 : p.getD i 0 = BitVec.ofNat 8 (o.getD 0 / 256))
    (h1 : p.getD (i + 1) 0 = BitVec.ofNat 8 (o.getD 0))
    (hle : ∀ c, o = some c → c ≤ 65535) : (if o.isSome = true then some (u16 p i) else none) = o := by
  cases ho : o with
  | none => rfl
  | some c => exact congrArg some ((u16_of_optional h0 h1).1 c ho (hle c ho))

end Fields

/-! ## The GRADE reply -/

theorem fpFree_handQuery : FpFree (handQuery f) :=
  .ite (p := fun s => s.ret.inForce = true) (fun _ _ => Iff.rfl) (fun x s => (bystander_setFp x).offer s _) .refl

theorem offer_gradeFrame (s : State) (x : Nat) :
    offer (gradeFrame s x) s = offering (byteOf x) 0x09#8 (gradePayload s) s := rfl

theorem gradePayload_popFrame (s : State) : gradePayload (popFrame s) = gradePayload s := rfl

/-- The seconds since the last capture fit their three bytes. -/
theorem sinceCapture_le (s : State) : sinceCapture s ≤ 16777215 := by
  unfold sinceCapture
  split
  · omega
  · decide

/-- The bytes of a GRADE, one by one (R195). -/
def gradeBytes (s : State) : List Byte :=
  [byteOf (prof s).chemistry, byteOf (prof s).series, classCode s.grade.gradeClass, flagsByte s,
    BitVec.ofNat 8 (s.grade.soh.getD 0 / 256), BitVec.ofNat 8 (s.grade.soh.getD 0),
    BitVec.ofNat 8 (s.grade.capacity.getD 0 / 65536), BitVec.ofNat 8 (s.grade.capacity.getD 0 / 256),
    BitVec.ofNat 8 (s.grade.capacity.getD 0), byteOf s.grade.estimateCount,
    BitVec.ofNat 8 (s.grade.r25c.getD 0 / 65536), BitVec.ofNat 8 (s.grade.r25c.getD 0 / 256),
    BitVec.ofNat 8 (s.grade.r25c.getD 0), BitVec.ofNat 8 (s.grade.resistance.getD 0 / 65536),
    BitVec.ofNat 8 (s.grade.resistance.getD 0 / 256), BitVec.ofNat 8 (s.grade.resistance.getD 0),
    signedByte (s.grade.pulseTemperature.getD 0), BitVec.ofNat 8 (s.grade.sd.getD 0 / 256),
    BitVec.ofNat 8 (s.grade.sd.getD 0), BitVec.ofNat 8 (s.grade.lastDeltaSoc.getD 0 / 256),
    BitVec.ofNat 8 (s.grade.lastDeltaSoc.getD 0), byteOf s.ret.points.length,
    BitVec.ofNat 8 (sinceCapture s / 65536), BitVec.ofNat 8 (sinceCapture s / 256), BitVec.ofNat 8 (sinceCapture s)]

theorem gradePayload_eq (s : State) : gradePayload s = gradeBytes s := rfl

/-- Settles O51: the reply, then each field at its byte. -/
theorem queryIsAnswered : Obligations.QueryIsAnswered := by
  unfold Obligations.QueryIsAnswered
  intro s f ht hk hin p
  have hsent : exec .query s = .next (settle (offering f.src 0x09#8 p (popFrame s))) := by
    refine (frameStep_takes (handOn := handQuery) ht (ofKind_iff.2 hk) fpFree_handQuery).trans ?_
    refine congrArg (fun t => Host.Outcome.next (settle t)) ((if_pos hin).trans ?_)
    rw [offer_gradeFrame, byteOf_src, gradePayload_popFrame]
  refine ⟨hsent, ?_⟩
  clear hsent
  have hp : p = gradeBytes s := gradePayload_eq s
  clear_value p
  subst hp
  have hcapture : u24 (gradeBytes s) 22 = sinceCapture s := u24_of_be24 rfl rfl rfl (Nat.lt_succ_of_le (sinceCapture_le s))
  have hbyte : ∀ n : Nat, (byteOf n).toNat = n % 256 := fun n => BitVec.toNat_ofNat n 8
  obtain ⟨hsoh, hsoh'⟩ := u16_of_optional (p := gradeBytes s) (i := 4) (o := s.grade.soh) rfl rfl
  obtain ⟨hcap, hcap'⟩ := u24_of_optional (p := gradeBytes s) (i := 6) (o := s.grade.capacity) rfl rfl rfl
  obtain ⟨hr25, hr25'⟩ := u24_of_optional (p := gradeBytes s) (i := 10) (o := s.grade.r25c) rfl rfl rfl
  obtain ⟨hres, hres'⟩ := u24_of_optional (p := gradeBytes s) (i := 13) (o := s.grade.resistance) rfl rfl rfl
  obtain ⟨hsd, hsd'⟩ := u16_of_optional (p := gradeBytes s) (i := 17) (o := s.grade.sd) rfl rfl
  obtain ⟨hsoc, hsoc'⟩ := u16_of_optional (p := gradeBytes s) (i := 19) (o := s.grade.lastDeltaSoc) rfl rfl
  refine ⟨rfl, hbyte _, hbyte _, classCode_toNat _, rfl, flagsByte_bits s, hsoh, hsoh', hcap, hcap',
    fun h => u8_of_byteOf rfl (Nat.lt_succ_of_le h), hr25, hr25', hres, hres', fun k hk' hlo hhi => ?_, fun h => ?_,
    hsd, hsd', hsoc, hsoc', fun h => u8_of_byteOf rfl (by omega), fun h => ?_, fun k hlast => ?_⟩
  · exact s8_of_signedByte (congrArg (fun o : Option Int => signedByte (o.getD 0)) hk') hlo hhi
  · exact s8_of_signedByte (congrArg (fun o : Option Int => signedByte (o.getD 0)) h) (by decide) (by decide)
  · rw [hcapture, sinceCapture, h]
    rfl
  · rw [hcapture, sinceCapture, hlast]

/-! ## The ANNOUNCE -/

/-- The bytes of an ANNOUNCE, one by one (R195). -/
def announceBytes (s : State) : List Byte :=
  [byteOf (prof s).chemistry, byteOf (prof s).series, classCode s.grade.gradeClass, flagsByte s,
    bondCode s.ret.bondState, partnerByte s, BitVec.ofNat 8 (s.grade.soh.getD 0 / 256), BitVec.ofNat 8 (s.grade.soh.getD 0),
    BitVec.ofNat 8 (s.grade.capacity.getD 0 / 65536), BitVec.ofNat 8 (s.grade.capacity.getD 0 / 256),
    BitVec.ofNat 8 (s.grade.capacity.getD 0), BitVec.ofNat 8 (s.grade.r25c.getD 0 / 65536),
    BitVec.ofNat 8 (s.grade.r25c.getD 0 / 256), BitVec.ofNat 8 (s.grade.r25c.getD 0),
    BitVec.ofNat 8 (s.grade.sd.getD 0 / 256), BitVec.ofNat 8 (s.grade.sd.getD 0),
    (voltageField s.fe.lastVoltage).getD 0 0, (voltageField s.fe.lastVoltage).getD 1 0,
    temperatureField s.fe.lastTemperature, byteOf s.grade.epoch]

theorem announcePayload_eq (s : State) : announcePayload s = announceBytes s := rfl

/-- The partner byte is a node number in the four engaged states, and FFH elsewhere. -/
theorem partnerByte_engaged {n : Nat} (hb : engagedState s.ret.bondState = true) (he : s.ret.engaged = some n) :
    partnerByte s = byteOf n := by
  rw [partnerByte, if_pos hb, he]
  rfl

theorem partnerByte_unengaged (hb : engagedState s.ret.bondState = false) : partnerByte s = 0xFF#8 :=
  if_neg fun h => Bool.false_ne_true (hb.symm.trans h)

theorem nodeByte_byteOf {n : Nat} (hlo : 1 ≤ n) (hhi : n ≤ 239) : nodeByte (byteOf n) = true := by
  rw [nodeByte, byteOf_toNat (by omega)]
  exact decide_eq_true ⟨hlo, hhi⟩

/-- The voltage field fits its two bytes. -/
theorem u16_voltageField {p : List Byte} {i : Nat} {v : Option VoltageSample} (h0 : p.getD i 0 = (voltageField v).getD 0 0)
    (h1 : p.getD (i + 1) 0 = (voltageField v).getD 1 0) (hle : ∀ x, v = some x → x.mv ≤ 65535) :
    (v = none → u16 p i = 65535) ∧ (∀ x, v = some x → u16 p i = x.mv) := by
  refine ⟨fun hv => ?_, fun x hv => ?_⟩
  · rw [hv] at h0 h1
    exact u16_of_be16 h0 h1 (by norm_num)
  · rw [hv] at h0 h1
    exact u16_of_be16 h0 h1 (Nat.lt_succ_of_le (hle x hv))

/-- Settles O52: the form of the frame, then each field from its bytes. -/
theorem announceReadsBack : Obligations.AnnounceReadsBack := by
  unfold Obligations.AnnounceReadsBack
  intro s hchem hser1 hser hepoch hcapLe hr25Le hsdLe hvolt heng hengRange n _ hn1 hn
  rw [announcePayload_eq]
  dsimp only
  obtain ⟨hflag7, hflag6, hflag5, hflag4, hflag3, hflag2, hflag1, hflag0⟩ := flagsByte_bits s
  have hseries : u8 (announceBytes s) 1 = (prof s).series := u8_of_byteOf rfl (Nat.lt_succ_of_le hser)
  have hbond : bondOfCode (u8 (announceBytes s) 4) = some s.ret.bondState := bondOfCode_bondCode _
  have hpartner : (if u8 (announceBytes s) 5 = 255 then none else some (u8 (announceBytes s) 5)) = s.ret.engaged
      ∧ (if engagedState s.ret.bondState then nodeByte ((announceBytes s).getD 5 0) else decide (u8 (announceBytes s) 5 = 255)) = true := by
    have hbyte : (announceBytes s).getD 5 0 = partnerByte s := rfl
    rw [u8, hbyte]
    cases he : s.ret.engaged with
    | none =>
      rw [he] at heng
      rw [partnerByte_unengaged heng.symm, ← heng]
      exact ⟨rfl, rfl⟩
    | some m =>
      obtain ⟨hlo, hhi⟩ := hengRange m he
      rw [he] at heng
      rw [partnerByte_engaged heng.symm he, ← heng, byteOf_toNat (by omega), if_neg (by omega)]
      exact ⟨rfl, nodeByte_byteOf hlo hhi⟩
  obtain ⟨hsoh, hsoh'⟩ := u16_of_optional (p := announceBytes s) (i := 6) (o := s.grade.soh) rfl rfl
  obtain ⟨-, hcap'⟩ := u24_of_optional (p := announceBytes s) (i := 8) (o := s.grade.capacity) rfl rfl rfl
  obtain ⟨-, hr25'⟩ := u24_of_optional (p := announceBytes s) (i := 11) (o := s.grade.r25c) rfl rfl rfl
  obtain ⟨-, hsd'⟩ := u16_of_optional (p := announceBytes s) (i := 14) (o := s.grade.sd) rfl rfl
  have hcap := flagged_u24 (p := announceBytes s) (i := 8) rfl rfl rfl hcapLe
  have hr25 := flagged_u24 (p := announceBytes s) (i := 11) rfl rfl rfl hr25Le
  have hsd := flagged_u16 (p := announceBytes s) (i := 14) rfl rfl hsdLe
  obtain ⟨hnoVoltage, hsomeVoltage⟩ := u16_voltageField (p := announceBytes s) (i := 16) (v := s.fe.lastVoltage) rfl rfl hvolt
  have hvoltage : (if u16 (announceBytes s) 16 = 65535 then none else some (u16 (announceBytes s) 16))
      = s.fe.lastVoltage.bind (fun x => if x.mv = 65535 then none else some x.mv) := by
    cases hv : s.fe.lastVoltage with
    | none => rw [hnoVoltage hv]; rfl
    | some x => rw [hsomeVoltage x hv]; rfl
  refine ⟨?_, ?_, hsoh, hsoh', fun k hk hlo hhi => ?_, fun h => congrArg temperatureField h, hcap', hr25', hsd', hnoVoltage,
    hsomeVoltage, hflag4, hflag3, hflag0⟩
  · have hfields : announceFieldsOk (announceBytes s) = true := by
      rw [announceFieldsOk, hseries, decide_eq_true hser1, hbond]
      have hclass : u8 (announceBytes s) 2 ≤ 4 := classCode_le s.grade.gradeClass
      rw [decide_eq_true hclass]
      exact hpartner.2
    have hsrc : nodeByte (byteOf n) = true := nodeByte_byteOf hn1 hn
    show ((0xFF#8 : Byte) == broadcast && nodeByte (byteOf n) && decide ((announceBytes s).length = 20) && announceFieldsOk (announceBytes s)) = true
    rw [hfields, hsrc]
    rfl
  · have hflags : (announceBytes s).getD 3 0 = flagsByte s := rfl
    have hclass : classOfCode (u8 (announceBytes s) 2) = s.grade.gradeClass := classOfCode_classCode _
    have hsource : (byteOf n).toNat = n := byteOf_toNat (by omega)
    have hchemistry : u8 (announceBytes s) 0 = (prof s).chemistry := u8_of_byteOf rfl (Nat.lt_succ_of_le hchem)
    have hepoch' : u8 (announceBytes s) 19 = s.grade.epoch := u8_of_byteOf rfl (Nat.lt_succ_of_le hepoch)
    rw [readAnnounce]
    simp only [hflags, hflag7, hflag6, hflag5, hflag2, hflag1, hclass, hsource, hchemistry, hseries, hepoch', hbond, hcap, hr25,
      hsd, hpartner.1, hvoltage, Option.getD_some]
  · exact s8_of_signedByte (congrArg temperatureField hk) (by omega) (by omega)

end Sys2Proof.Machine
end

section
/-! SUPPORT. The campaign at every block (R21, R72, R73, R117 to R119, R159 to R161). Settles O53 and O54. -/

namespace Sys2Proof.Machine

variable {s : State} {f : Frame}

/-! ## A CAMPAIGN frame -/

theorem campaign_payload_length (hw : wellFormed f = true) (hk : f.kind = 0x0A#8) : f.payload.length = 2 := by
  unfold wellFormed at hw
  rw [show f.kind.toNat = 10 by rw [hk]; rfl] at hw
  simp only [Bool.and_eq_true, decide_eq_true_eq] at hw
  exact hw.2

/-- A well-formed CAMPAIGN carries its action code first (R118). -/
theorem campaignAction_eq (hw : wellFormed f = true) (hk : f.kind = 0x0A#8) :
    campaignAction f = actionOfCode (u8 f.payload 0) := by
  have hlen := campaign_payload_length hw hk
  unfold campaignAction
  cases hp : f.payload with
  | nil => rw [hp] at hlen; cases hlen
  | cons a l => rfl

theorem actionOfCode_unknown {n : Nat} (h : n = 0 ∨ 4 < n) : actionOfCode n = none := by
  unfold actionOfCode
  split
  case h_5 => rfl
  all_goals omega

/-- The state with the campaign number stored (R117). -/
def campaignStored (f : Frame) (s : State) : State := s.setRet { s.ret with campaign := some (u8 f.payload 1) }

theorem fpFree_handCampaign {act : State → State} (h : FpFree act) : FpFree (handCampaign act f) :=
  .ite (p := fun s => s.ret.inForce = true) (fun _ _ => Iff.rfl)
    (.ite (p := fun s => s.ret.campaign = some (u8 f.payload 1)) (fun _ _ => Iff.rfl) .refl
      (.comp (op := campaignStored f) (fun _ _ => rfl) h)) .refl

/-- A CAMPAIGN with a new number: the number is stored and the action carried out. -/
theorem exec_campaign {act : State → State} {a : Option CampaignAction} (ht : takes s f) (hk : f.kind = 0x0A#8)
    (hin : s.ret.inForce = true) (hnew : s.ret.campaign ≠ some (u8 f.payload 1)) (hfree : FpFree act)
    (ha : actionOfCode (u8 f.payload 0) = a) :
    frameStep (ofAction a) (handCampaign act) s = .next (settle (act (campaignStored f (popFrame s)))) := by
  refine (frameStep_takes (handOn := handCampaign act) ht
    (ofAction_iff.2 ⟨hk, (campaignAction_eq ht.2.2 hk).trans ha⟩) (fpFree_handCampaign hfree)).trans ?_
  exact congrArg (fun t => Host.Outcome.next (settle t)) ((if_pos hin).trans (if_neg hnew))

/-- A CAMPAIGN whose number is the one stored is ignored (R117). -/
theorem exec_campaign_repeat {act : State → State} {a : Option CampaignAction} (ht : takes s f) (hk : f.kind = 0x0A#8)
    (hin : s.ret.inForce = true) (hold : s.ret.campaign = some (u8 f.payload 1)) (hfree : FpFree act)
    (ha : campaignAction f = a) :
    frameStep (ofAction a) (handCampaign act) s = .next (settle (popFrame s)) := by
  refine (frameStep_takes (handOn := handCampaign act) ht (ofAction_iff.2 ⟨hk, ha⟩) (fpFree_handCampaign hfree)).trans ?_
  exact congrArg (fun t => Host.Outcome.next (settle t)) ((if_pos hin).trans (if_pos hold))

/-! ## The actions leave the frame in hand alone -/

theorem fpFree_takeStart : FpFree takeStart := fun x s => by
  have hact : (s.setFp x).ret.activity = s.ret.activity := rfl
  unfold takeStart
  rw [hact]
  cases s.ret.activity with
  | active => rfl
  | dormant => exact (bystander_setFp x).readinessTest (s.setRet { s.ret with activity := .active })

theorem cutHandshake_eq (s : State) : cutHandshake s =
    if s.ret.bondState = .proposing ∨ s.ret.bondState = .held then disengage .free s else s := by
  unfold cutHandshake
  cases s.ret.bondState <;> rfl

theorem fpFree_cutHandshake : FpFree cutHandshake := by
  rw [funext cutHandshake_eq]
  exact .ite (p := fun s => s.ret.bondState = .proposing ∨ s.ret.bondState = .held) (fun _ _ => Iff.rfl)
    (fpFree_disengage .free) .refl

theorem fpFree_takeFreeze : FpFree takeFreeze :=
  .comp (op := fun s => s.setRet { s.ret with freeze := true }) (fun _ _ => rfl) fpFree_cutHandshake

theorem fpFree_takeReleaseAll : FpFree takeReleaseAll :=
  .ite (p := fun s => s.ret.freeze = true) (fun _ _ => Iff.rfl) .refl <|
  .ite (p := fun s => s.ret.bondState = .bonded) (fun _ _ => Iff.rfl) (fpFree_releasePartner .campaign .free) fpFree_cutHandshake

theorem bondTakesRegrade_eq (s : State) : bondTakesRegrade s =
    if s.ret.bondState = .unready then s
    else if bondStands s.ret.bondState = true then releasePartner .regrade .unready s else disengage .unready s := by
  unfold bondTakesRegrade
  cases s.ret.bondState <;> rfl

theorem fpFree_bondTakesRegrade : FpFree bondTakesRegrade := by
  rw [funext bondTakesRegrade_eq]
  exact .ite (p := fun s => s.ret.bondState = .unready) (fun _ _ => Iff.rfl) .refl <|
    .ite (p := fun s => bondStands s.ret.bondState = true) (fun _ _ => Iff.rfl) (fpFree_releasePartner .regrade .unready)
      (fpFree_disengage .unready)

/-- The record emptied and the rise told (R73). -/
def regradeRisen (s : State) : State :=
  tellEpochRise s.grade.gradeClass (s.setRet { s.ret with grade := regradedRecord s.grade })

theorem carryOutRegrade_eq (s : State) :
    carryOutRegrade s = bondTakesRegrade (clearPulse (continuityBreak (regradeRisen s))) := rfl

theorem fpFree_carryOutRegrade : FpFree carryOutRegrade := by
  have hrise : FpFree regradeRisen := fun x s =>
    (bystander_setFp x).tellEpochRise (s.setRet { s.ret with grade := regradedRecord s.grade }) s.grade.gradeClass
  have hbreak : FpFree continuityBreak := fun _ _ => rfl
  have hclear : FpFree clearPulse := fun _ _ => rfl
  exact ((hrise.comp hbreak).comp hclear).comp fpFree_bondTakesRegrade

theorem fpFree_takeRegrade : FpFree takeRegrade :=
  .ite (p := fun s => s.ret.freeze = true) (fun _ _ => Iff.rfl) .refl fpFree_carryOutRegrade

/-- Every CAMPAIGN whose number is the one stored is ignored, whatever its action (R117). -/
theorem exec_frameRow_repeat (ht : takes s f) (hk : f.kind = 0x0A#8) (hin : s.ret.inForce = true)
    (hold : s.ret.campaign = some (u8 f.payload 1)) : exec (frameRow f) s = .next (settle (popFrame s)) := by
  unfold frameRow
  rw [show f.kind.toNat = 10 by rw [hk]; rfl]
  show exec (match campaignAction f with
    | some .start => .campaignStart
    | some .freeze => .campaignFreeze
    | some .regrade => .campaignRegrade
    | some .releaseAll => .campaignReleaseAll
    | none => .campaignUnknownAction) s = _
  split
  case h_1 ha => exact exec_campaign_repeat ht hk hin hold fpFree_takeStart ha
  case h_2 ha => exact exec_campaign_repeat ht hk hin hold fpFree_takeFreeze ha
  case h_3 ha => exact exec_campaign_repeat ht hk hin hold fpFree_takeRegrade ha
  case h_4 ha => exact exec_campaign_repeat ht hk hin hold fpFree_takeReleaseAll ha
  case h_5 ha => exact exec_campaign_repeat ht hk hin hold FpFree.refl ha

/-! ## A handshake cut short -/

/-- A handshake cut short: the PROPOSE withdrawn, the engagement over (R159, R160). -/
theorem cutHandshake_shaking (h : s.ret.bondState = .proposing ∨ s.ret.bondState = .held) (he : s.ret.engaged.isSome = true) :
    cutHandshake s =
      unengaged .free (if s.ret.bondState = .proposing then withoutPropose (s.ret.engaged.getD 0) s else s) := by
  obtain ⟨n, hn⟩ := Option.isSome_iff_exists.1 he
  rw [cutHandshake_eq, if_pos h, hn]
  rcases h with hb | hb
  · rw [if_pos hb, disengage_proposing .free hb hn]
    rfl
  · have hne : s.ret.bondState ≠ .proposing := by rw [hb]; exact BondState.noConfusion
    rw [if_neg hne, disengage_of_not_proposing .free hne]

theorem cutHandshake_not (h : ¬ (s.ret.bondState = .proposing ∨ s.ret.bondState = .held)) : cutHandshake s = s := by
  rw [cutHandshake_eq, if_neg h]

/-- Settles O53: the repeat test, then each action on the state with the number stored. -/
theorem campaignActions : Obligations.CampaignActions := by
  unfold Obligations.CampaignActions
  intro s f ht hk hin v stored frozen awake becomes action shaking cut ready
  have htake : ∀ {act : State → State} {a : Option CampaignAction}, s.ret.campaign ≠ some (u8 f.payload 1) → FpFree act →
      actionOfCode action = a → frameStep (ofAction a) (handCampaign act) s = .next (settle (act stored)) :=
    fun hnew hfree ha => exec_campaign ht hk hin hnew hfree ha
  have hcode : ∀ {n : Nat} {a : Option CampaignAction}, action = n → actionOfCode n = a → actionOfCode action = a :=
    fun h ha => by rw [h, ha]
  have hstart : s.ret.activity = .dormant → takeStart stored = readinessTest awake := fun h => by
    unfold takeStart
    rw [show stored.ret.activity = .dormant from h]
    rfl
  refine ⟨exec_frameRow_repeat ht hk hin, fun hnew => ⟨fun h => ?_, fun h hact => ?_, fun h hact hno => ?_,
    fun h hact hr hx => ?_, fun h hact hr hx => ?_, fun h hno => ?_, fun h hsh he => ?_, fun h hfr => ?_,
    fun h hfr hsh he => ?_, fun h hfr hb n he => ?_, fun h hfr hb hsh => ?_⟩⟩
  · exact htake (act := fun s => s) hnew FpFree.refl (actionOfCode_unknown h)
  · refine (htake hnew fpFree_takeStart (hcode h rfl)).trans (congrArg (fun t => Host.Outcome.next (settle t)) ?_)
    unfold takeStart
    rw [show stored.ret.activity = .active from hact]
  · refine (htake hnew fpFree_takeStart (hcode h rfl)).trans (congrArg (fun t => Host.Outcome.next (settle t)) ?_)
    rw [hstart hact]
    cases hclass : s.grade.gradeClass with
    | none => exact readinessTest_without_class (s := awake) hclass
    | some k =>
      refine readinessTest_of_not (s := awake) (by_contra fun hall => hno ?_)
      have hb : s.ret.bondState = .unready := by_contra fun h' => hall (.inl h')
      have hc : recordComplete s.grade = true := Bool.eq_true_of_not_eq_false fun h' => hall (.inr (.inl h'))
      have hm : s.link.mode = .up := by_contra fun h' => hall (.inr (.inr (.inl h')))
      exact ⟨hb, hc, hm, congrArg Option.isSome hclass⟩
  · obtain ⟨hb, hc, hm, -⟩ := hr
    refine (htake hnew fpFree_takeStart (hcode h rfl)).trans (congrArg (fun t => Host.Outcome.next (settle t)) ?_)
    rw [hstart hact, readinessTest_ready (s := awake) hb hc hm rfl hx]
    rfl
  · obtain ⟨hb, hc, hm, hsome⟩ := hr
    obtain ⟨k, hclass⟩ := Option.isSome_iff_exists.1 hsome
    refine (htake hnew fpFree_takeStart (hcode h rfl)).trans (congrArg (fun t => Host.Outcome.next (settle t)) ?_)
    have hk : k ≠ .x := fun h' => hx (by rw [hclass, h'])
    rw [hstart hact, readinessTest_ready (s := awake) hb hc hm rfl hclass, if_neg hk]
    rfl
  · refine (htake hnew fpFree_takeFreeze (hcode h rfl)).trans (congrArg (fun t => Host.Outcome.next (settle t)) ?_)
    exact cutHandshake_not (s := frozen) hno
  · refine (htake hnew fpFree_takeFreeze (hcode h rfl)).trans (congrArg (fun t => Host.Outcome.next (settle t)) ?_)
    exact cutHandshake_shaking (s := frozen) hsh he
  · refine (htake hnew fpFree_takeReleaseAll (hcode h rfl)).trans (congrArg (fun t => Host.Outcome.next (settle t)) ?_)
    exact if_pos hfr
  all_goals
    refine (htake hnew fpFree_takeReleaseAll (hcode h rfl)).trans (congrArg (fun t => Host.Outcome.next (settle t)) ?_)
    refine (if_neg fun h' => Bool.false_ne_true (hfr.symm.trans h')).trans ?_
  · have hb : s.ret.bondState ≠ .bonded := by rcases hsh with hb | hb <;> rw [hb] <;> exact BondState.noConfusion
    exact (if_neg hb).trans (cutHandshake_shaking (s := stored) hsh he)
  · have hne : stored.ret.bondState ≠ .proposing := (show stored.ret.bondState = .bonded from hb) ▸ BondState.noConfusion
    exact (if_pos hb).trans (releasePartner_engaged (s := stored) .campaign .free hne he)
  · exact (if_neg hb).trans (cutHandshake_not (s := stored) hsh)

/-! ## REGRADE -/

theorem bondEpochRise_incomplete_stands {before : Option GradeClass} (hc : recordComplete s.grade = false)
    (hb : s.ret.bondState = .bonded ∨ s.ret.bondState = .bondedSilent) :
    bondEpochRise before s = releasePartner .regrade .unready s := by
  rcases hb with h | h <;> simp only [bondEpochRise, h, hc, if_true]

/-- A record made incomplete at the bond engine, whole: UNREADY stands, every other state is left for it, with what the queue
is given or gives up (R141, R143). -/
theorem bondEpochRise_emptied (before : Option GradeClass) (hc : recordComplete s.grade = false) :
    (s.ret.bondState = .unready ∧ bondEpochRise before s = s)
      ∨ (s.ret.bondState ≠ .unready ∧ ∃ l : Link, bondEpochRise before s = unengaged .unready (s.setLink l)
        ∧ (s.ret.bondState = .bonded ∨ s.ret.bondState = .bondedSilent → ∀ n, s.ret.engaged = some n →
            l = (offering (byteOf n) 0x07#8 [0x02#8] s).link)
        ∧ (s.ret.bondState = .proposing → ∀ n, s.ret.engaged = some n → l = (withoutPropose n s).link)
        ∧ (s.ret.bondState = .free ∨ s.ret.bondState = .rejected ∨ s.ret.bondState = .held → l = s.link)) := by
  by_cases hu : s.ret.bondState = .unready
  · exact .inl ⟨hu, (bondEpochRise_unready hu).trans (readinessTest_of_not (.inr (.inl hc)))⟩
  refine .inr ⟨hu, ?_⟩
  cases hstands : bondStands s.ret.bondState with
  | true =>
    have hb := (bondStands_iff _).1 hstands
    cases he : s.ret.engaged with
    | some n =>
      refine ⟨_, bondEpochRise_incomplete_bond hc hb he, fun _ m hm => ?_, fun h => ?_, fun h => ?_⟩
      · rw [Option.some.inj hm]
        rfl
      · exact absurd hstands (by rw [h]; exact Bool.false_ne_true)
      · exact absurd hstands (by rcases h with h | h | h <;> rw [h] <;> exact Bool.false_ne_true)
    | none =>
      refine ⟨s.link, ?_, fun _ m hm => ?_, fun _ m hm => ?_, fun _ => rfl⟩
      · rw [bondEpochRise_incomplete_stands hc hb]
        unfold releasePartner
        rw [he]
        exact disengage_of_not_proposing .unready fun h => by rcases hb with h' | h' <;> cases h.symm.trans h'
      · cases hm
      · cases hm
  | false =>
    have hexit := bondEpochRise_incomplete (before := before) hc hu hstands
    by_cases hp : s.ret.bondState = .proposing
    · refine ⟨(withdrawPropose s).link, ?_, fun h => ?_, fun _ n hn => ?_, fun h => ?_⟩
      · rw [hexit, disengage_eq]
        obtain ⟨q, t, h⟩ := withdrawPropose_requeued s
        rw [h]
        rfl
      · rw [hp] at h
        rcases h with h | h <;> cases h
      · rw [withdrawPropose_proposing hp hn]
      · rw [hp] at h
        rcases h with h | h | h <;> cases h
    · refine ⟨s.link, ?_, fun h => ?_, fun h => absurd h hp, fun _ => rfl⟩
      · rw [hexit, disengage_of_not_proposing .unready hp]
        rfl
      · exact absurd (hstands.symm.trans ((bondStands_iff _).2 h)) Bool.false_ne_true

/-- An entry with no score and no mark, as a rescoring against an empty record leaves it (R127). -/
def cleared (e : PeerEntry) : PeerEntry := { e with score := none, mark := none }

theorem rescoreTable_empty_perm (p : Profile) {own : GradeRecord} (t : PeerTable) (hc : own.capacity = none) :
    (rescoreTable p own t).entries.Perm (t.entries.map cleared) := by
  have hscored : (fun e => { scored p own e with mark := none }) = cleared := funext fun e => by
    have hscore : scoreOf p own e.capacity e.r25c e.sd = none := by
      unfold scoreOf
      rw [hc]
    show ({ e with score := scoreOf p own e.capacity e.r25c e.sd, mark := none } : PeerEntry) = _
    rw [hscore]
    rfl
  rw [← hscored]
  exact sortEntries_perm _

/-- The unpinning takes out of the cleared entries what it takes out of the entries: the age and the number stand. -/
theorem unpin_cleared_perm (p : Profile) (now : Nat) {own : GradeRecord} (t : PeerTable) (hc : own.capacity = none) :
    (unpin p now (rescoreTable p own t)).entries.Perm
      ((t.entries.filter (fun e => !(t.pin == some e.number && aged p now e))).map cleared) := by
  have hfilter := (rescoreTable_empty_perm p t hc).filter (fun e => !(t.pin == some e.number && aged p now e))
  rw [List.filter_map] at hfilter
  exact hfilter

theorem all_cleared {l k : List PeerEntry} (h : l.Perm (k.map cleared)) :
    l.all (fun e => e.score.isNone && e.mark.isNone) = true := by
  rw [h.all_eq, List.all_map]
  exact List.all_eq_true.2 fun _ _ => rfl

/-- The state the bond engine is told of at a REGRADE: the number stored, the record emptied, the table scored anew. -/
def regradeTold (f : Frame) (s : State) : State :=
  let g := regradedRecord s.grade
  { popFrame s with
    dom := { s.dom with ret := { s.ret with campaign := some (u8 f.payload 1), grade := g } }
    table := rescoreTable (prof s) g s.table }

theorem regradeRisen_stored (f : Frame) (s : State) :
    regradeRisen (campaignStored f (popFrame s)) = bondEpochRise s.grade.gradeClass (regradeTold f s) := rfl

/-- The rest detector's and the pulse engine's part of a REGRADE (R36, R50). -/
def regradeRested (s : State) : State :=
  { s with
    dom := { s.dom with ret := { s.ret with points := [], offered := none, lastPulse := none } }
    rest := { s.rest with state := .moving, restTimer := none, longTimer := none, reference := none }
    pulse := abandonPulse s.pulse }

/-- The bond engine has nothing left to do once the rise has taken it to UNREADY. -/
theorem carryOutRegrade_stored {b : State} (h : bondEpochRise s.grade.gradeClass (regradeTold f s) = b)
    (hb : b.ret.bondState = .unready) : carryOutRegrade (campaignStored f (popFrame s)) = regradeRested b := by
  rw [carryOutRegrade_eq, regradeRisen_stored, h, bondTakesRegrade_eq]
  exact if_pos hb

/-- Settles O54: the veto, or the told state through the bond engine's exit and the three blocks. -/
theorem regradeEmptiesRecord : Obligations.RegradeEmptiesRecord := by
  unfold Obligations.RegradeEmptiesRecord
  intro s f ht hk hin haction hnew v
  have hexec := exec_campaign ht hk hin hnew fpFree_takeRegrade (congrArg actionOfCode haction)
  refine ⟨fun hf => hexec.trans (congrArg (fun t => Host.Outcome.next (settle t)) (if_pos hf)), fun hf => ?_⟩
  have hcarry : takeRegrade (campaignStored f v) = carryOutRegrade (campaignStored f v) :=
    if_neg fun h => Bool.false_ne_true (hf.symm.trans h)
  rw [hcarry] at hexec
  rcases bondEpochRise_emptied (s := regradeTold f s) s.grade.gradeClass rfl with ⟨hu, hrise⟩ | ⟨hu, l, hrise, htold, hwithdrawn, hsame⟩
  · have hu' : s.ret.bondState = .unready := hu
    have hw := carryOutRegrade_stored hrise hu
    have hperm : (regradeTold f s).table.entries.Perm (s.table.entries.map cleared) :=
      rescoreTable_empty_perm (prof s) s.table rfl
    have hall : s.table.entries.filter (fun e => !(decide (s.ret.bondState ≠ .unready) && decide (s.table.pin = some e.number)
        && decide (e.lastHeard + (prof s).peerAgeLimit * (prof s).announceInterval ≤ s.seconds))) = s.table.entries :=
      List.filter_eq_self.2 fun e _ => by rw [hu']; rfl
    rw [hw] at hexec
    refine ⟨_, hexec, rfl, ?_, rfl, abandonPulse_eq s.pulse, rfl, rfl, all_cleared hperm, ?_, ?_, ?_, rfl, rfl,
      fun h => absurd hu' h, fun h => ?_, fun h => ?_, fun _ => rfl⟩
    · rw [if_pos hu']
      show _ = _
      rw [← hu']
      rfl
    · rw [hall]
      exact hperm
    · rw [if_pos hu']
      rfl
    · rw [if_pos hu']
      rfl
    · rw [hu'] at h
      rcases h with h | h <;> cases h
    · rw [hu'] at h
      cases h
  · have hu' : s.ret.bondState ≠ .unready := hu
    have hw := carryOutRegrade_stored hrise rfl
    have hperm : (unpin (prof s) s.seconds (regradeTold f s).table).entries.Perm
        ((s.table.entries.filter (fun e => !(decide (s.ret.bondState ≠ .unready) && decide (s.table.pin = some e.number)
          && decide (e.lastHeard + (prof s).peerAgeLimit * (prof s).announceInterval ≤ s.seconds)))).map cleared) := by
      have hleaves : ∀ e : PeerEntry, (decide (s.ret.bondState ≠ .unready) && decide (s.table.pin = some e.number)
          && decide (e.lastHeard + (prof s).peerAgeLimit * (prof s).announceInterval ≤ s.seconds))
          = (s.table.pin == some e.number && aged (prof s) s.seconds e) := fun e => by
        rw [decide_eq_true hu', Bool.true_and, beq_eq_decide]
        rfl
      simp only [hleaves]
      exact unpin_cleared_perm (own := regradedRecord s.grade) (prof s) s.seconds s.table rfl
    rw [hw] at hexec
    refine ⟨_, hexec, rfl, ?_, rfl, abandonPulse_eq s.pulse, rfl, rfl, all_cleared hperm, hperm, ?_, ?_, rfl, rfl,
      fun _ => ⟨rfl, rfl, rfl, rfl, rfl⟩, fun h n hn => ?_, fun h n hn => ?_, fun h => ?_⟩
    · rw [if_neg hu']
      rfl
    · rw [if_neg hu']
      rfl
    · rw [if_neg hu']
      rfl
    · exact htold h n hn
    · exact hwithdrawn h n hn
    · exact hsame (h.resolve_left hu')

end Sys2Proof.Machine
end

section
/-! SUPPORT. The requests for a profile (R171 to R173), and the falling supply (R184, R187, R188). Settles O55 and O60. -/

namespace Sys2Proof.Machine

variable {s : State} {f : Frame}

/-! ## Requests -/

theorem fpFree_startShare : FpFree startShare := fun x s => by
  rw [startShare_eq, startShare_eq]
  rfl

theorem fpFree_commTakesRequest : FpFree (commTakesRequest f) :=
  .ite (p := fun s => f.payload = [0x00#8, 0x00#8] ∧ s.comm.numbering = some .numbered) (fun _ _ => Iff.rfl) fpFree_startShare
    .refl

/-- A PROFILE request on the state with it gone from the FIFO (R104). -/
theorem exec_profileRequest (ht : takes s f) (hf : isRequest f = true) (hs : s.comm.state ≠ .failed) :
    exec .profileRequest s = .next (settle (commTakesRequest f (popFrame s))) :=
  (frameStep_takes (handOn := handRequest) (row := ofRequest) ht hf fpFree_commTakesRequest.unlessFailed).trans
    (congrArg (fun t => Host.Outcome.next (settle t)) (if_neg hs))

/-- Only a NUMBERED sharer answers a request (R173). -/
theorem commTakesRequest_eq (s : State) : commTakesRequest f s =
    if f.payload = [0x00#8, 0x00#8] ∧ s.comm.numbering = some .numbered ∧ s.ret.source = some .externalMemory
      ∧ (prof s).sharing = true then { s with comm := { s.comm with share := some 0 } } else s := by
  unfold commTakesRequest
  rw [startShare_eq]
  by_cases hp : f.payload = [0x00#8, 0x00#8] ∧ s.comm.numbering = some .numbered
  · by_cases hsh : s.ret.source = some .externalMemory ∧ (prof s).sharing = true
    · rw [if_pos hp, if_pos hsh, if_pos ⟨hp.1, hp.2, hsh⟩]
    · rw [if_pos hp, if_neg hsh, if_neg fun h => hsh h.2.2]
  · rw [if_neg hp, if_neg fun h => hp ⟨h.1, h.2.1⟩]

theorem exec_requestTimer (hr : inRun s = true) (hs : s.comm.state = .awaitingProfile) (ht : s.comm.requestTimer.isSome = true) :
    exec .requestTimerExpiry s = .next (settle { s with
      link := offerFrame s.link ⟨0xFF#8, 0x00#8, 0x0B#8, [0x00#8, 0x00#8]⟩
      comm := { s.comm with requestTimer := some 2000, buffer := bufferAtExpiry s.comm.buffer } }) :=
  whenever_of (by rw [hr, ht, decide_eq_true hs]; rfl)

/-- Settles O55: the request by its sharer test, the timer by the buffer. -/
theorem profileRequests : Obligations.ProfileRequests := by
  unfold Obligations.ProfileRequests
  intro s hr shares
  refine ⟨fun f ht hf hs => ⟨fun hp hsh => ?_, fun hno => ?_⟩, fun hs ht => ?_, fun hs => ?_⟩
  · rw [exec_profileRequest ht hf hs, commTakesRequest_eq (s := popFrame s), if_pos ⟨hp, hsh⟩]
    rfl
  · rw [exec_profileRequest ht hf hs, commTakesRequest_eq (s := popFrame s)]
    exact congrArg (fun t => Host.Outcome.next (settle t)) (if_neg hno)
  · have hexec := exec_requestTimer hr hs ht
    refine ⟨fun hb => ?_, fun b hb => ?_⟩
    · have hempty : bufferAtExpiry s.comm.buffer = s.comm.buffer := by rw [hb]; rfl
      rw [hexec, hempty]
    · rw [hexec, hb]
      rfl
  · exact whenever_not (by rw [decide_eq_false hs, Bool.and_false])

/-! ## The falling supply -/

/-- Every block stopped, on the retained items and the pins that stand (R188). -/
theorem leaveRun_eq (s : State) : leaveRun s = { s with
    fe := ⟨none, 0, 0, none, none, none, false, false⟩
    rest := ⟨.moving, none, none, none, []⟩
    pulse := if s.pulse.state = .idle then s.pulse else ⟨.idle, 0, false, none, none⟩
    link := stoppedLink
    fp := ⟨none, none⟩
    table := ⟨[], s.table.pin⟩
    bond := ⟨none, none, none, none, 0, none, none, false, false⟩
    comm := stoppedCommissioning } := by
  unfold leaveRun
  rw [abandonPulse_eq]
  rfl

/-- In OFF the end of the event leaves the domain alone (R187). -/
theorem settle_dom_off (h : s.supply.state = .off) : (settle s).dom = s.dom := by
  rw [settle_eq]
  exact congrArg (fun c => ({ s.dom with check := c } : Domain)) (if_pos h)

/-- Settles O60: the stop with its continuity break, and the lost domain. -/
theorem supplyFalls : Obligations.SupplyFalls := by
  unfold Obligations.SupplyFalls
  intro s
  refine ⟨fun hr => ?_, fun hr => ?_, fun h => ?_, fun hh hr => ?_⟩
  · have hrun : inRun s = true := decide_eq_true hr
    refine (whenever_of (n := enterHold s) hrun).trans ?_
    rw [enterHold, leaveRun_eq]
    rfl
  · exact whenever_not (decide_eq_false hr)
  · refine ⟨_, whenever_of ((holdsDomain_iff _).2 h), ?_, settle_dom_off rfl, ?_⟩
    · exact settle_supply _
    · exact settle_free _
  · exact whenever_not (Bool.eq_false_iff.2 fun h => ((holdsDomain_iff _).1 h).elim hh hr)

end Sys2Proof.Machine
end

section
/-! SUPPORT. NUMBERING and the profile's coming into force, each given whole (R164, R167, R174 to R177, R191). -/

namespace Sys2Proof.Machine

variable {s : State}

/-! ## NUMBERING -/

/-- A number held and its ENUM offered (R176). -/
def claimed (n : Nat) (m : NumberMethod) (s : State) : State := { s with
  comm := { s.comm with
    state := .numbering, numbering := some .claiming, method := some m, claim := some n, held := some n }
  link := offerFrame s.link ⟨0xFF#8, byteOf n, 0x01#8, [byteOf n, methodCode m]⟩ }

/-- A chained node waits for CHAIN-IN, or for the quiet time where it is active (R177). -/
def chainWaiting (s : State) : State := { s with
  comm := { s.comm with
    state := .numbering
    numbering := if s.pins.chainIn = true then some .quietWait else some .chainWait
    method := some .chained
    claim := none
    held := none
    quietTimer := if s.pins.chainIn = true then some 50 else s.comm.quietTimer } }

theorem enterChainWait_eq (s : State) : enterChainWait s = chainWaiting s := by
  unfold enterChainWait chainWaiting
  by_cases hc : s.pins.chainIn = true
  · rw [if_pos hc, if_pos hc]
    exact if_pos hc
  · rw [if_neg hc, if_neg hc]
    exact if_neg hc

/-- The table of R175. -/
theorem enterNumbering_fixed (h : (prof s).nodeNumber ≠ 0) : enterNumbering s = claimed (prof s).nodeNumber .fixed s :=
  if_pos h

theorem enterNumbering_retained (h : (prof s).nodeNumber = 0) {n : NodeNumber} (hn : s.ret.number = some n) :
    enterNumbering s = claimed n.number .retained s := by
  unfold enterNumbering
  rw [if_neg (not_not.2 h), hn]
  rfl

theorem enterNumbering_chained (h : (prof s).nodeNumber = 0) (hn : s.ret.number = none) :
    enterNumbering s = chainWaiting s := by
  unfold enterNumbering
  rw [if_neg (not_not.2 h), hn]
  exact enterChainWait_eq s

/-- The three entries to NUMBERING. -/
theorem enterNumbering_cases (s : State) : (∃ n m, enterNumbering s = claimed n m s) ∨ enterNumbering s = chainWaiting s := by
  by_cases h : (prof s).nodeNumber = 0
  · cases hn : s.ret.number with
    | some n => exact .inl ⟨_, _, enterNumbering_retained h hn⟩
    | none => exact .inr (enterNumbering_chained h hn)
  · exact .inl ⟨_, _, enterNumbering_fixed h⟩

/-- What the entry to NUMBERING leaves alone. -/
structure NumberingFrame (s t : State) : Prop where
  whole : t = { s with comm := t.comm, link := t.link }
  state : t.comm.state = .numbering
  highest : t.comm.highest = s.comm.highest
  share : t.comm.share = s.comm.share
  memoryCommand : t.comm.memoryCommand = s.comm.memoryCommand
  requestTimer : t.comm.requestTimer = s.comm.requestTimer
  buffer : t.comm.buffer = s.comm.buffer
  mode : t.link.mode = s.link.mode
  fifo : t.link.fifo = s.link.fifo
  receiver : t.link.receiver = s.link.receiver

theorem enterNumbering_frame (s : State) : NumberingFrame s (enterNumbering s) := by
  rcases enterNumbering_cases s with ⟨n, m, h⟩ | h <;> rw [h]
  · have hlink := offerFrame_frame s.link ⟨0xFF#8, byteOf n, 0x01#8, [byteOf n, methodCode m]⟩
    exact ⟨rfl, rfl, rfl, rfl, rfl, rfl, rfl, (congrArg Link.mode hlink).trans rfl,
      (congrArg Link.fifo hlink).trans rfl, (congrArg Link.receiver hlink).trans rfl⟩
  · exact ⟨rfl, rfl, rfl, rfl, rfl, rfl, rfl, rfl, rfl, rfl⟩

/-- A link on which nothing has been queued since the entry to RUN. -/
structure FreshLink (l : Link) : Prop where
  mode : l.mode = .listen
  queue : l.queue = []
  transmitter : l.transmitter = .idle

theorem claimed_queue {n : Nat} {m : NumberMethod} (h : FreshLink s.link) :
    (claimed n m s).link.queue = [⟨0xFF#8, byteOf n, 0x01#8, [byteOf n, methodCode m]⟩] := by
  have hoffer : offerFrame s.link ⟨0xFF#8, byteOf n, 0x01#8, [byteOf n, methodCode m]⟩ =
      { s.link with queue := [⟨0xFF#8, byteOf n, 0x01#8, [byteOf n, methodCode m]⟩], transmitter := .wait } :=
    offerFrame_empty h.queue (.inl h.transmitter) (by rw [h.mode]; rfl)
  exact congrArg Link.queue hoffer

theorem claimed_claims (n : Nat) (m : NumberMethod) (h : FreshLink s.link) (hq : s.comm.quietTimer = none)
    (hs : s.comm.share = none) : ClaimsNumber n m (methodCode m) (settle (claimed n m s)) := by
  have hshare : (claimed n m s).comm.share = none := hs
  unfold ClaimsNumber
  rw [settle_comm_idle hshare, settle_link_idle hshare]
  exact ⟨rfl, rfl, rfl, rfl, hq, claimed_queue h⟩

/-- The entry to NUMBERING of a start, settled (R175 to R177). -/
theorem numberingBegins (h : FreshLink s.link) (hh : s.comm.highest = 0) (hq : s.comm.quietTimer = none)
    (hs : s.comm.share = none) : NumberingBegins (prof s) s.ret.number (settle (enterNumbering s)) := by
  have hframe := enterNumbering_frame s
  refine ⟨(settle_commState _).trans hframe.state, (settle_highest _).trans (hframe.highest.trans hh),
    (settle_mode _).trans (hframe.mode.trans h.mode), fun hf => ?_, fun hf n hn => ?_, fun hf hn => ?_⟩
  · rw [enterNumbering_fixed hf]
    exact claimed_claims _ .fixed h hq hs
  · rw [enterNumbering_retained hf hn]
    exact claimed_claims _ .retained h hq hs
  · rw [enterNumbering_chained hf hn, settle_comm_idle (s := chainWaiting s) hs, settle_link_idle (s := chainWaiting s) hs,
      settle_chainIn]
    refine ⟨rfl, rfl, rfl, h.queue, rfl, ?_⟩
    rw [← hq]
    rfl

/-! ## The bond engine at a start -/

/-- A FREE or REJECTED engine of a dormant node (R164, R167). -/
abbrev Sleeps (a : Activity) (b : BondState) : Prop := a = .dormant ∧ (b = .free ∨ b = .rejected)

theorem startBond_sleeps (h : Sleeps s.ret.activity s.ret.bondState) : startBond s = setBondState .unready none s := by
  obtain ⟨ha, hb⟩ := h
  rcases hb with hb | hb <;> simp only [startBond, hb, ha, if_true]

theorem startBond_bonded (h : s.ret.bondState = .bonded) : startBond s =
    s.setBond { s.bond with partnerTimer := some (partnerRun s) } := by
  simp only [startBond, h]

theorem startBond_same (h : ¬ Sleeps s.ret.activity s.ret.bondState) (hb : s.ret.bondState ≠ .bonded) : startBond s = s := by
  unfold startBond
  split
  case h_1 hbonded => exact absurd hbonded hb
  case h_2 hfree => exact if_neg fun ha => h ⟨ha, .inl hfree⟩
  case h_3 hrejected => exact if_neg fun ha => h ⟨ha, .inr hrejected⟩
  all_goals rfl

/-- A kept bond under a start: a BONDED engine starts a fresh partner timer, one of a dormant node sleeps (R164). -/
theorem startBond_eq (s : State) : startBond s = { s with
    dom := { s.dom with ret := { s.ret with
      bondState := if Sleeps s.ret.activity s.ret.bondState then .unready else s.ret.bondState
      engaged := if Sleeps s.ret.activity s.ret.bondState then none else s.ret.engaged } }
    bond := if s.ret.bondState = .bonded
      then { s.bond with partnerTimer := some ((prof s).partnerTimeout * (prof s).announceInterval) } else s.bond } := by
  by_cases hs : Sleeps s.ret.activity s.ret.bondState
  · have hb : s.ret.bondState ≠ .bonded := fun h => by rcases hs.2 with h' | h' <;> cases h.symm.trans h'
    rw [startBond_sleeps hs, if_pos hs, if_pos hs, if_neg hb]
    rfl
  · rw [if_neg hs, if_neg hs]
    by_cases hb : s.ret.bondState = .bonded
    · rw [startBond_bonded hb, if_pos hb]
      rfl
    · rw [startBond_same hs hb, if_neg hb]
      rfl

/-! ## The profile in force -/

/-- The retained items under a profile that has come into force (R167). -/
def profiled (rec : LoadedRecord) (source : ProfileSource) (r : Retained) : Retained := { r with
  profile := some rec.profile, source := some source, inForce := true, profileCheck := some rec.check
  residue := 0, points := [], offered := none, activity := rec.profile.startActivity }

/-- The blocks under a profile that has come into force, before the bond engine and NUMBERING (R10, R36, R76, R167). -/
def broughtInForce (rec : LoadedRecord) (source : ProfileSource) (s : State) : State := { s with
  dom := { s.dom with ret := profiled rec source s.ret }
  fe := reopenFrontEnd rec.profile s.fe
  rest := { s.rest with state := .moving, restTimer := none, longTimer := none, reference := none }
  link := reopenLink rec.profile s.link }

theorem profileInForce_eq (rec : LoadedRecord) (source : ProfileSource) (s : State) : profileInForce rec source s =
    enterNumbering (startBond (broughtInForce rec source (compareCheck rec.check s))) := rfl

theorem compareCheck_same {check : Word16} (h : s.ret.profileCheck = none ∨ s.ret.profileCheck = some check) :
    compareCheck check s = s := by
  unfold compareCheck
  rcases h with h | h <;> rw [h]
  exact if_pos rfl

theorem compareCheck_other {check k : Word16} (h : s.ret.profileCheck = some k) (hk : k ≠ check) :
    compareCheck check s = { s with dom := coldDomain, table := ⟨[], none⟩, bond := stoppedBond } := by
  unfold compareCheck
  rw [h]
  exact if_neg hk

/-- The bond engine under the profile that has come into force. -/
theorem startBond_broughtInForce (rec : LoadedRecord) (source : ProfileSource) (s : State) :
    startBond (broughtInForce rec source s) = { broughtInForce rec source s with
      dom := { s.dom with ret := { profiled rec source s.ret with
        bondState := if Sleeps rec.profile.startActivity s.ret.bondState then .unready else s.ret.bondState
        engaged := if Sleeps rec.profile.startActivity s.ret.bondState then none else s.ret.engaged } }
      bond := if s.ret.bondState = .bonded
        then { s.bond with partnerTimer := some (rec.profile.partnerTimeout * rec.profile.announceInterval) } else s.bond } :=
  startBond_eq _

/-- A profile comes into force with no other check value than the retained one: the contents stand (R174). -/
theorem profileInForce_same {rec : LoadedRecord} (source : ProfileSource)
    (h : s.ret.profileCheck = none ∨ s.ret.profileCheck = some rec.check) :
    profileInForce rec source s = enterNumbering (startBond (broughtInForce rec source s)) := by
  rw [profileInForce_eq, compareCheck_same h]

/-- A restart made cold (R191). -/
def cooled (s : State) : State := { s with dom := coldDomain, table := ⟨[], none⟩, bond := stoppedBond }

/-- A profile comes into force with another check value: the start is made cold (R174, R191). -/
theorem profileInForce_other {rec : LoadedRecord} (source : ProfileSource) {k : Word16}
    (h : s.ret.profileCheck = some k) (hk : k ≠ rec.check) :
    profileInForce rec source s = enterNumbering (broughtInForce rec source (cooled s)) := by
  have hsame : startBond (broughtInForce rec source (cooled s)) = broughtInForce rec source (cooled s) :=
    startBond_same (fun hs => by rcases hs.2 with h' | h' <;> cases h') (fun hb => by cases hb)
  rw [profileInForce_eq, compareCheck_other h hk]
  exact congrArg enterNumbering hsame

/-- The retained items and the blocks a profile's coming into force sets in every case (R167). -/
theorem profileInForce_sets (rec : LoadedRecord) (source : ProfileSource) (s : State) :
    ∃ r b n, (profileInForce rec source s).ret = { profiled rec source r with bondState := b, engaged := n }
      ∧ (profileInForce rec source s).fe = reopenFrontEnd rec.profile s.fe
      ∧ (profileInForce rec source s).rest = { s.rest with
          state := .moving, restTimer := none, longTimer := none, reference := none }
      ∧ (profileInForce rec source s).pulse = s.pulse ∧ (profileInForce rec source s).fp = s.fp
      ∧ (profileInForce rec source s).supply = s.supply := by
  have hframe := fun u => (enterNumbering_frame u).whole
  by_cases h : s.ret.profileCheck = none ∨ s.ret.profileCheck = some rec.check
  · rw [profileInForce_same source h, hframe, startBond_broughtInForce]
    exact ⟨s.ret, _, _, rfl, rfl, rfl, rfl, rfl, rfl⟩
  · obtain ⟨k, hk⟩ := Option.ne_none_iff_exists'.1 fun hn => h (.inl hn)
    rw [profileInForce_other source hk fun he => h (.inr (by rw [hk, he])), hframe]
    exact ⟨coldRetained, .unready, none, rfl, rfl, rfl, rfl, rfl, rfl⟩

/-- Every profile's coming into force ends in NUMBERING under that profile, on the link opened anew (R76, R167). -/
theorem profileInForce_numbers (rec : LoadedRecord) (source : ProfileSource) (s : State) :
    ∃ u, profileInForce rec source s = enterNumbering u ∧ u.comm = s.comm ∧ u.link = reopenLink rec.profile s.link
      ∧ prof u = rec.profile ∧ u.pins = s.pins := by
  by_cases h : s.ret.profileCheck = none ∨ s.ret.profileCheck = some rec.check
  · refine ⟨_, profileInForce_same source h, ?_⟩
    rw [startBond_broughtInForce]
    exact ⟨rfl, rfl, rfl, rfl⟩
  · obtain ⟨k, hk⟩ := Option.ne_none_iff_exists'.1 fun hn => h (.inl hn)
    exact ⟨_, profileInForce_other source hk fun he => h (.inr (by rw [hk, he])), rfl, rfl, rfl, rfl⟩

/-- What stands, and what is set, where the contents stand (R164, R167, R174). -/
theorem profileInForce_keeps_contents {rec : LoadedRecord} (source : ProfileSource)
    (h : s.ret.profileCheck = none ∨ s.ret.profileCheck = some rec.check) :
    (profileInForce rec source s).dom = { s.dom with ret := { profiled rec source s.ret with
        bondState := if Sleeps rec.profile.startActivity s.ret.bondState then .unready else s.ret.bondState
        engaged := if Sleeps rec.profile.startActivity s.ret.bondState then none else s.ret.engaged } }
      ∧ (profileInForce rec source s).table = s.table
      ∧ (profileInForce rec source s).bond = if s.ret.bondState = .bonded
        then { s.bond with partnerTimer := some (rec.profile.partnerTimeout * rec.profile.announceInterval) } else s.bond := by
  rw [profileInForce_same source h, (enterNumbering_frame _).whole, startBond_broughtInForce]
  exact ⟨rfl, rfl, rfl⟩

/-- A start made cold (R174, R191). -/
theorem profileInForce_cools {rec : LoadedRecord} (source : ProfileSource) {k : Word16}
    (h : s.ret.profileCheck = some k) (hk : k ≠ rec.check) :
    (profileInForce rec source s).dom = { coldDomain with ret := profiled rec source coldRetained }
      ∧ (profileInForce rec source s).table = ⟨[], none⟩ ∧ (profileInForce rec source s).bond = stoppedBond := by
  rw [profileInForce_other source h hk, (enterNumbering_frame _).whole]
  exact ⟨rfl, rfl, rfl⟩

theorem startBond_broughtInForce_reads (rec : LoadedRecord) (source : ProfileSource) (s : State) :
    prof (startBond (broughtInForce rec source s)) = rec.profile
      ∧ (startBond (broughtInForce rec source s)).ret.number = s.ret.number := by
  rw [startBond_broughtInForce]
  exact ⟨rfl, rfl⟩

/-- The method a profile without a fixed number numbers itself by: the number retained, or the chain (R175). -/
theorem profileInForce_retained {rec : LoadedRecord} (source : ProfileSource) {n : NodeNumber}
    (h : s.ret.profileCheck = none ∨ s.ret.profileCheck = some rec.check) (h0 : rec.profile.nodeNumber = 0)
    (hn : s.ret.number = some n) :
    (profileInForce rec source s).comm = (claimed n.number .retained s).comm
      ∧ (profileInForce rec source s).link = offerFrame (reopenLink rec.profile s.link)
        ⟨0xFF#8, byteOf n.number, 0x01#8, [byteOf n.number, 0x03#8]⟩ := by
  obtain ⟨hprof, hnumber⟩ := startBond_broughtInForce_reads rec source s
  rw [profileInForce_same source h, enterNumbering_retained (hprof ▸ h0) (hnumber.trans hn), startBond_broughtInForce]
  exact ⟨rfl, rfl⟩

theorem profileInForce_chained {rec : LoadedRecord} (source : ProfileSource)
    (h : s.ret.profileCheck = none ∨ s.ret.profileCheck = some rec.check) (h0 : rec.profile.nodeNumber = 0)
    (hn : s.ret.number = none) :
    (profileInForce rec source s).comm = (chainWaiting s).comm
      ∧ (profileInForce rec source s).link = reopenLink rec.profile s.link := by
  obtain ⟨hprof, hnumber⟩ := startBond_broughtInForce_reads rec source s
  rw [profileInForce_same source h, enterNumbering_chained (hprof ▸ h0) (hnumber.trans hn), startBond_broughtInForce]
  exact ⟨rfl, rfl⟩

theorem profileInForce_cooled_chained {rec : LoadedRecord} (source : ProfileSource) {k : Word16}
    (h : s.ret.profileCheck = some k) (hk : k ≠ rec.check) (h0 : rec.profile.nodeNumber = 0) :
    (profileInForce rec source s).comm = (chainWaiting s).comm
      ∧ (profileInForce rec source s).link = reopenLink rec.profile s.link := by
  rw [profileInForce_other source h hk, enterNumbering_chained (s := broughtInForce rec source (cooled s)) h0 rfl]
  exact ⟨rfl, rfl⟩

end Sys2Proof.Machine
end

section
/-! SUPPORT. The assembly of a record from its segments (R172), and the profile of the bus coming into force. Settles O56. -/

namespace Sys2Proof.Machine

variable {s : State} {f : Frame}

/-! ## The operations leave the frame in hand alone -/

theorem fpFree_enterNumbering : FpFree enterNumbering := fun x s => by
  have hnumber : (s.setFp x).ret.number = s.ret.number := rfl
  have hprof : prof (s.setFp x) = prof s := rfl
  by_cases h : (prof s).nodeNumber = 0
  · cases hn : s.ret.number with
    | some n => rw [enterNumbering_retained h hn, enterNumbering_retained (s := s.setFp x) h (hnumber.trans hn)]; rfl
    | none => rw [enterNumbering_chained h hn, enterNumbering_chained (s := s.setFp x) h (hnumber.trans hn)]; rfl
  · rw [enterNumbering_fixed h, enterNumbering_fixed (s := s.setFp x) h]
    rfl

theorem fpFree_startBond : FpFree startBond := fun x s => by
  rw [startBond_eq, startBond_eq]
  rfl

theorem fpFree_compareCheck (check : Word16) : FpFree (compareCheck check) := fun x s => by
  have hcheck : (s.setFp x).ret.profileCheck = s.ret.profileCheck := rfl
  unfold compareCheck
  rw [hcheck]
  cases s.ret.profileCheck with
  | none => rfl
  | some k =>
    show (if k = check then s.setFp x else madeCold (s.setFp x)) = (if k = check then s else madeCold s).setFp x
    rw [apply_ite (fun t : State => t.setFp x)]
    rfl

theorem fpFree_profileInForce (rec : LoadedRecord) (source : ProfileSource) : FpFree (profileInForce rec source) :=
  (((fpFree_compareCheck rec.check).comp (op' := broughtInForce rec source) fun _ _ => rfl).comp fpFree_startBond).comp
    fpFree_enterNumbering

/-! ## The buffer judged -/

/-- The state with the assembly buffer as given. -/
def buffering (b : Option AssemblyBuffer) (s : State) : State := { s with comm := { s.comm with buffer := b } }

/-- The state a complete record comes into force in: the buffer empty, the requests over (R172). -/
def assembledState (s : State) : State := { s with comm := { s.comm with requestTimer := none, buffer := none } }

/-- The buffer and the record it holds, judged (R172). -/
theorem judgeBuffer_none (s : State) : judgeBuffer (buffering none s) = buffering none s := rfl

theorem judgeBuffer_incomplete {b : AssemblyBuffer} (h : bufferComplete b = false) :
    judgeBuffer (buffering (some b) s) = buffering (some b) s :=
  if_neg fun h' => Bool.false_ne_true (h.symm.trans h')

theorem judgeBuffer_invalid {b : AssemblyBuffer} (h : bufferComplete b = true) (hj : judgeAssembled b = none) :
    judgeBuffer (buffering (some b) s) = buffering none s := by
  refine (if_pos h).trans ?_
  rw [hj]
  rfl

theorem judgeBuffer_valid {b : AssemblyBuffer} {r : LoadedRecord} (h : bufferComplete b = true)
    (hj : judgeAssembled b = some r) : judgeBuffer (buffering (some b) s) =
      profileInForce ⟨asBusProfile r.profile, r.check⟩ .bus (assembledState s) := by
  refine (if_pos h).trans ?_
  rw [hj]
  rfl

theorem fpFree_judgeBuffer : FpFree judgeBuffer := fun x s => by
  have hs : ∀ t : State, t = buffering t.comm.buffer t := fun _ => rfl
  rw [hs s]
  show judgeBuffer (buffering s.comm.buffer (s.setFp x)) = _
  cases s.comm.buffer with
  | none => rfl
  | some b =>
    cases hb : bufferComplete b with
    | false => rw [judgeBuffer_incomplete hb, judgeBuffer_incomplete hb]; rfl
    | true =>
      cases hj : judgeAssembled b with
      | none => rw [judgeBuffer_invalid hb hj, judgeBuffer_invalid hb hj]; rfl
      | some r => rw [judgeBuffer_valid hb hj, judgeBuffer_valid hb hj]; exact fpFree_profileInForce _ _ x (assembledState s)

theorem fpFree_commTakesSegment : FpFree (commTakesSegment f) :=
  .ite (p := fun s => s.comm.state = .awaitingProfile ∧ segmentOk f = true) (fun _ _ => Iff.rfl)
    (.comp (op := fun s => buffering (bufferAfter f s.comm.buffer) s) (fun _ _ => rfl) fpFree_judgeBuffer) .refl

/-- A segment, or a PROFILE too short for one, on the state with it gone from the FIFO (R104). -/
theorem exec_profileSegment (ht : takes s f) (hk : f.kind = 0x0B#8) (hreq : isRequest f = false) (hs : s.comm.state ≠ .failed) :
    exec .profileSegment s = .next (settle (commTakesSegment f (popFrame s))) := by
  have hrow : ofSegment f = true := by
    rw [ofSegment, hreq, hk]
    rfl
  exact (frameStep_takes (handOn := handSegment) ht hrow fpFree_commTakesSegment.unlessFailed).trans
    (congrArg (fun t => Host.Outcome.next (settle t)) (if_neg hs))

/-! ## The tests of a segment -/

theorem addressedByte_iff (b : Byte) : addressedByte b = true ↔ b ≠ 0x00#8 ∧ b ≠ 0xFF#8 := by
  rw [addressedByte, decide_eq_true_iff]
  bv_omega

/-- The four tests of a segment on its frame (R172). -/
theorem segmentOk_iff : segmentOk f = true ↔ 3 ≤ f.payload.length ∧ f.src ≠ 0x00#8 ∧ f.src ≠ 0xFF#8
    ∧ 1 ≤ u8 f.payload 1 ∧ u8 f.payload 1 ≤ 5 ∧ 75 ≤ u8 f.payload 2 ∧ u8 f.payload 2 ≤ 131
    ∧ u8 f.payload 1 = (u8 f.payload 2 + 31) / 32 ∧ u8 f.payload 0 < u8 f.payload 1
    ∧ (f.payload.drop 3).length =
      if u8 f.payload 0 + 1 = u8 f.payload 1 then u8 f.payload 2 - 32 * (u8 f.payload 1 - 1) else 32 := by
  unfold segmentOk
  have hdiv : divRoundUp (u8 f.payload 2) 32 = (u8 f.payload 2 + 31) / 32 := rfl
  simp only [Bool.and_eq_true, decide_eq_true_eq, addressedByte_iff, hdiv]
  tauto

/-- One segment does not complete a record of two or more (R172). -/
theorem bufferComplete_single {source count len i : Nat} {data : List Byte} {st : Bool} (h : 2 ≤ count) :
    bufferComplete ⟨source, count, len, [(i, data)], st⟩ = false := by
  refine Bool.eq_false_iff.2 fun hall => ?_
  have hheld : ∀ j, j < count → i = j := fun j hj => by
    have := List.all_eq_true.1 hall j (List.mem_range.2 hj)
    simpa [holdsIndex] using this
  have h0 := hheld 0 (by omega)
  have h1 := hheld 1 (by omega)
  omega

/-! ## A passing segment and the buffer -/

section Buffer

variable {b : AssemblyBuffer}

theorem bufferAfter_foreign (h : b.source ≠ f.src.toNat) : bufferAfter f (some b) = some b := if_pos h

theorem bufferAfter_differs (h : b.source = f.src.toNat) (hd : b.count ≠ u8 f.payload 1 ∨ b.length ≠ u8 f.payload 2) :
    bufferAfter f (some b) = none := (if_neg (not_not.2 h)).trans (if_pos hd)

theorem bufferAfter_repeated (h : b.source = f.src.toNat) (hc : b.count = u8 f.payload 1) (hl : b.length = u8 f.payload 2)
    (hi : holdsIndex b (u8 f.payload 0) = true) : bufferAfter f (some b) = some b :=
  (if_neg (not_not.2 h)).trans ((if_neg (by rw [hc, hl]; simp)).trans (if_pos hi))

theorem bufferAfter_grows (h : b.source = f.src.toNat) (hc : b.count = u8 f.payload 1) (hl : b.length = u8 f.payload 2)
    (hi : holdsIndex b (u8 f.payload 0) = false) : bufferAfter f (some b) = some (storeSegment f b) :=
  (if_neg (not_not.2 h)).trans ((if_neg (by rw [hc, hl]; simp)).trans (if_neg (by rw [hi]; exact Bool.false_ne_true)))

end Buffer

/-- The link when a profile comes into force (R76): the receiver hunts anew, an attempt in SENDING is given up. -/
theorem reopenLink_eq (p : Profile) {l : Link} {q : List Frame} (hq : l.queue = q) : reopenLink p l =
    if l.transmitter = .sending then { l with
      receiver := ⟨.hunt, 0, 0, false, [], 0, false, false⟩, resetDue := false, stuckDue := false
      transmitter := if p.holdoff = 0 then (if q = [] then .idle else .wait) else .holdoff
      holdoff := if p.holdoff = 0 then none else some p.holdoff
      attempt := none }
    else { l with receiver := ⟨.hunt, 0, 0, false, [], 0, false, false⟩, resetDue := false, stuckDue := false } := by
  unfold reopenLink
  dsimp only
  rw [startHoldoff_eq p.holdoff (l := { l with receiver := freshReceiver .hunt, resetDue := false, stuckDue := false }) hq]
  rfl

/-- Settles O56: the tests, the buffer's cases, and the valid record brought into force with each check outcome. -/
theorem segmentsAssemble : Obligations.SegmentsAssemble := by
  unfold Obligations.SegmentsAssemble
  intro s f ht hk hreq hs v i count len data passes holds
  have hexec : exec .profileSegment s = .next (settle (commTakesSegment f v)) := exec_profileSegment ht hk hreq hs
  have htaken : s.comm.state = .awaitingProfile → passes →
      exec .profileSegment s = .next (settle (judgeBuffer (buffering (bufferAfter f s.comm.buffer) v))) := fun ha hp =>
    hexec.trans (congrArg (fun t => Host.Outcome.next (settle t)) (if_pos ⟨ha, segmentOk_iff.2 hp⟩))
  have hunchanged : ∀ b, s.comm.buffer = some b → buffering (some b) v = v := fun b hb => by rw [← hb]; rfl
  refine ⟨fun h => ?_, fun ha hp hb => ?_, fun ha hp b hb => ⟨fun hc hsrc => ?_, fun hc hsrc hcount hlen hi => ?_,
    fun hsrc hd => ?_, fun hsrc hcount hlen hi => ?_⟩⟩
  · refine hexec.trans (congrArg (fun t => Host.Outcome.next (settle t)) (if_neg fun h' => ?_))
    exact h.elim (fun h => h h'.1) fun h => h (segmentOk_iff.1 h'.2)
  · obtain ⟨-, -, -, -, -, hlo, -, hdiv, -⟩ := id hp
    have htwo : 2 ≤ count := by omega
    rw [htaken ha hp, hb]
    exact congrArg (fun t => Host.Outcome.next (settle t))
      (judgeBuffer_incomplete (b := storeSegment f (bindBuffer f)) (bufferComplete_single htwo))
  · rw [htaken ha hp, hb, bufferAfter_foreign hsrc, judgeBuffer_incomplete hc, hunchanged b hb]
  · rw [htaken ha hp, hb, bufferAfter_repeated hsrc hcount hlen hi, judgeBuffer_incomplete hc, hunchanged b hb]
  · rw [htaken ha hp, hb, bufferAfter_differs hsrc hd]
    rfl
  · intro grown bytes
    have hgrown : exec .profileSegment s = .next (settle (judgeBuffer (buffering (some grown) v))) := by
      rw [htaken ha hp, hb, bufferAfter_grows hsrc hcount hlen hi]
      rfl
    have hbytes : assembled grown = bytes := congrArg (fun n => (List.range n).flatMap (segmentAt grown)) hcount
    have hjudged : judgeAssembled grown = if 67 + 4 * u8 bytes 2 = len then parseRecord bytes else none := by
      unfold judgeAssembled
      rw [hbytes, show grown.length = len from hlen]
      rfl
    refine ⟨fun hc => ?_, fun hc hbad => ?_, fun hc hgood r hr => ?_⟩
    · rw [hgrown, judgeBuffer_incomplete hc]
      rfl
    · have hnone : judgeAssembled grown = none := by
        rw [hjudged]
        rcases hbad with h | h
        · exact if_neg h
        · rw [h, ite_self]
      rw [hgrown, judgeBuffer_invalid hc hnone]
      rfl
    · intro p taken sleeps hunting waiting reopened claims chained
      have hvalid : judgeAssembled grown = some r := hjudged.trans ((if_pos hgood).trans hr)
      have hw := hgrown.trans (congrArg (fun t => Host.Outcome.next (settle t)) (judgeBuffer_valid hc hvalid))
      have hreopen : reopenLink p v.link = reopened := reopenLink_eq p rfl
      obtain ⟨ret, b', n', hret, hfe, hrest, hpulse, hfp, hsup⟩ := profileInForce_sets ⟨p, r.check⟩ .bus (assembledState v)
      obtain ⟨u, hu, hcomm, hlink, -, -⟩ := profileInForce_numbers ⟨p, r.check⟩ .bus (assembledState v)
      have hnumbers := enterNumbering_frame u
      have hkept := profileInForce_keeps_contents (s := assembledState v) (rec := ⟨p, r.check⟩) .bus
      have hcools := fun k => profileInForce_cools (s := assembledState v) (rec := ⟨p, r.check⟩) .bus (k := k)
      have hretained := fun h n => profileInForce_retained (s := assembledState v) (rec := ⟨p, r.check⟩) .bus (n := n) h rfl
      have hchained := fun h => profileInForce_chained (s := assembledState v) (rec := ⟨p, r.check⟩) .bus h rfl
      have hcooled := fun k hk hne =>
        profileInForce_cooled_chained (s := assembledState v) (rec := ⟨p, r.check⟩) .bus (k := k) hk hne rfl
      rw [← hu] at hnumbers
      change exec .profileSegment s = .next (settle (profileInForce ⟨p, r.check⟩ .bus (assembledState v))) at hw
      have hreceiver : (reopenLink p v.link).receiver = ⟨.hunt, 0, 0, false, [], 0, false, false⟩ := by
        rw [reopenLink_eq p rfl]
        split <;> rfl
      generalize profileInForce ⟨p, r.check⟩ .bus (assembledState v) = w at *
      refine ⟨⟨w, hw, hfe, hrest, hpulse, hfp, hsup, fun h => ?_, fun k hk hne => ?_⟩, settle w, hw, ?_⟩
      · obtain ⟨hdom, htable, hbond⟩ := hkept h
        refine ⟨hdom, htable, hbond, fun n hn => ?_, fun hn => ?_⟩
        · obtain ⟨hclaim, hqueued⟩ := hretained h n hn
          exact ⟨hclaim, hqueued.trans (congrArg (fun l => offerFrame l _) hreopen)⟩
        · obtain ⟨hwait, hquiet⟩ := hchained h hn
          exact ⟨hwait, hquiet.trans hreopen⟩
      · obtain ⟨hdom, htable, hbond⟩ := hcools k hk hne
        obtain ⟨hwait, hquiet⟩ := hcooled k hk hne
        exact ⟨hdom.trans (by rw [hdom]; rfl), htable, hbond, hwait, hquiet.trans hreopen⟩
      · have hset : w.ret.inForce = true ∧ w.ret.source = some .bus ∧ w.ret.profileCheck = some r.check
            ∧ w.ret.profile = some p ∧ w.ret.residue = 0 ∧ w.ret.points = [] ∧ w.ret.activity = p.startActivity := by
          rw [hret]
          exact ⟨rfl, rfl, rfl, rfl, rfl, rfl, rfl⟩
        obtain ⟨hin, hsource, hcheck, hprofile, hresidue, hpoints, hactivity⟩ := hset
        rw [settle_ret, settle_fe, settle_commState, settle_requestTimer, settle_buffer, settle_receiver, settle_grade,
          settle_seconds, hfe, hnumbers.state, hnumbers.requestTimer, hnumbers.buffer, hnumbers.receiver, hcomm, hlink]
        refine ⟨hin, hsource, hcheck, hprofile, hresidue, hpoints, hactivity, rfl, rfl, rfl, rfl, rfl, rfl, hreceiver,
          fun h => ?_, fun k hk hne => ?_⟩
        · obtain ⟨hdom, -, -⟩ := hkept h
          unfold State.grade State.ret State.seconds
          rw [hdom]
          exact ⟨rfl, rfl, rfl⟩
        · obtain ⟨hdom, -, -⟩ := hcools k hk hne
          unfold State.grade State.ret State.seconds
          rw [hdom]
          exact ⟨rfl, rfl, rfl, rfl, rfl, rfl⟩

end Sys2Proof.Machine
end

section
/-! SUPPORT. A start, from its kind to RUN, and LOADING by the straps, each given whole (R164, R166 to R171, R182, R186, R191). -/

namespace Sys2Proof.Machine

variable {s u : State} {i : StartInputs}

/-! ## The entry to RUN -/

/-- The engaged number a start keeps: a standing bond's partner (R164). -/
def keptEngaged (r : Retained) : Option Nat := if bondStands (keptBondState r.bondState) then r.engaged else none

/-- The front end at the entry to RUN, under a profile (R6, R9, R11). -/
def firstReadings (i : StartInputs) (p : Profile) : FrontEnd :=
  ⟨some (windowMs p.gateCode), 0, 0, none, some ⟨(clamp 0 65535 i.vsense).toNat, roundHalfUp (clamp 0 65535 i.vsense).toNat p.series⟩,
    some (clamp (-40) 125 (roundHalfUpInt i.tsense 1000)), false, false⟩

/-- The bond engine at the entry to RUN (R164). -/
def restoredBond (r : Retained) : BondEngine :=
  { stoppedBond with bondClass := if bondStands (keptBondState r.bondState) then r.grade.gradeClass else none }

/-- The link at the entry to RUN (R84, R98). -/
def huntingLink : Link := { stoppedLink with receiver := freshReceiver .hunt }

/-- The state at the entry to RUN, on the contents it goes on with (R37, R51, R84, R98, R100, R137, R164). -/
def entered (k : StartKind) (fe : FrontEnd) (s : State) : State := { s with
  supply := ⟨.run, k⟩
  dom := { s.dom with ret := { s.ret with bondState := keptBondState s.ret.bondState, engaged := keptEngaged s.ret } }
  fe := fe
  rest := stoppedRest
  pulse := idlePulse
  link := huntingLink
  fp := stoppedFrames
  table := ⟨[], keptEngaged s.ret⟩
  bond := restoredBond s.ret
  comm := stoppedCommissioning }

/-- LOADING before a profile is in force, with the command of the read the memory has been given (R166, R168). -/
def loading (command : List Byte) (s : State) : State := { s with
  dom := { s.dom with ret := { s.ret with inForce := false, profile := none, source := none, activity := .dormant } }
  comm := { s.comm with state := .loading, highest := 0, memoryCommand := command } }

/-- The cold domain in the place of the contents (R187). -/
def onColdDomain (s : State) : State := { s with dom := coldDomain }

/-- A continuity break on the contents (R36). -/
def brokenOff (s : State) : State :=
  { s with dom := { s.dom with ret := { s.ret with points := [], offered := none, inForce := false } } }

theorem decideStart_cold {k : StartKind} {d : Domain} (h : k = .cold ∨ retentionPasses d = false) : decideStart k d = .cold := by
  rcases h with h | h
  · rw [h]
    rfl
  · cases k <;> simp [decideStart, h]

theorem startWith_cold {k : StartKind} (h : k = .cold ∨ retentionPasses (i.upset.getD s.dom) = false) :
    startWith k i s = loadProfile i (entered k (firstReadings i Config.holdingProfile) (onColdDomain s)) := by
  show startAs (decideStart k (i.upset.getD s.dom)) i (domainAtStart i (setSupplyState .start k s)) = _
  rw [decideStart_cold h]
  rfl

theorem startWith_restart (hu : i.upset = none) (h : retentionPasses s.dom = true) : startWith .restart i s =
    loadProfile i (entered .restart (firstReadings i Config.holdingProfile) (brokenOff s)) := by
  show startAs (decideStart .restart (i.upset.getD s.dom)) i ((setSupplyState .start .restart s).setDom (i.upset.getD s.dom)) = _
  rw [hu]
  show startAs (if retentionPasses s.dom then .restart else .cold) i (setSupplyState .start .restart s) = _
  rw [if_pos h]
  rfl

/-- A warm return that loads its profile goes on as a restart does (log entry 23). -/
theorem startWith_warm_loads (hu : i.upset = none) (h : retentionPasses s.dom = true) (hin : s.ret.inForce = false) :
    startWith .warm i s = loadProfile i (entered .warm (firstReadings i Config.holdingProfile) s) := by
  have hprof : prof (enterRun (setSupplyState .start .warm s)) = Config.holdingProfile :=
    if_neg fun h' => Bool.false_ne_true (hin.symm.trans h')
  show startAs (decideStart .warm (i.upset.getD s.dom)) i ((setSupplyState .start .warm s).setDom (i.upset.getD s.dom)) = _
  rw [hu]
  show startAs (if retentionPasses s.dom then .warm else .cold) i (setSupplyState .start .warm s) = _
  rw [if_pos h]
  refine (if_neg fun h' => Bool.false_ne_true (hin.symm.trans h')).trans ?_
  rw [openFrontEnd, hprof]
  rfl

theorem startWith_warm_resumes (hu : i.upset = none) (h : retentionPasses s.dom = true) (hin : s.ret.inForce = true) :
    startWith .warm i s = resumeCommissioning (startBond (entered .warm (firstReadings i (prof s)) s)) := by
  show startAs (decideStart .warm (i.upset.getD s.dom)) i ((setSupplyState .start .warm s).setDom (i.upset.getD s.dom)) = _
  rw [hu]
  show startAs (if retentionPasses s.dom then .warm else .cold) i (setSupplyState .start .warm s) = _
  rw [if_pos h]
  exact if_pos hin

/-! ## LOADING by the straps -/

theorem loadProfile_builtIn (h1 : i.cfg1 = false) (h0 : i.cfg0 = true) :
    loadProfile i u = profileInForce defaultRecord .builtIn (loading u.comm.memoryCommand u) := by
  unfold loadProfile
  rw [h1, h0]
  rfl

/-- The external memory is read at both settings where the straps agree (R166, R168). -/
theorem loadProfile_record (h : i.cfg0 = i.cfg1) {rec : LoadedRecord} (hr : parseRecord (i.memory.take 131) = some rec) :
    loadProfile i u = profileInForce rec .externalMemory (loading readCommand u) := by
  unfold loadProfile
  rw [h, hr]
  cases i.cfg1 <;> rfl

/-- AWAITING, or FAILED: the commissioning unit in a state that no profile is in force in (R170, R171). -/
def failedLoading (u : State) : State :=
  { loading readCommand u with comm := { u.comm with state := .failed, highest := 0, memoryCommand := readCommand } }

theorem loadProfile_failed (h1 : i.cfg1 = false) (h0 : i.cfg0 = false) (hr : parseRecord (i.memory.take 131) = none) :
    loadProfile i u = failedLoading u := by
  unfold loadProfile
  rw [h1, h0, hr]
  rfl

theorem loadProfile_fallback (h1 : i.cfg1 = true) (h0 : i.cfg0 = true) (hr : parseRecord (i.memory.take 131) = none) :
    loadProfile i u = profileInForce defaultRecord .builtIn (loading readCommand u) := by
  unfold loadProfile
  rw [h1, h0, hr]
  rfl

theorem loadProfile_awaits (h1 : i.cfg1 = true) (h0 : i.cfg0 = false) :
    loadProfile i u = awaitProfile (loading u.comm.memoryCommand u) := by
  unfold loadProfile
  rw [h1, h0]
  rfl

/-- The three outcomes of LOADING. -/
theorem loadProfile_cases (i : StartInputs) (u : State) :
    (∃ rec source command, loadProfile i u = profileInForce rec source (loading command u))
      ∨ loadProfile i u = failedLoading u ∨ ∃ command, loadProfile i u = awaitProfile (loading command u) := by
  cases h1 : i.cfg1 with
  | false =>
    cases h0 : i.cfg0 with
    | true => exact .inl ⟨_, _, _, loadProfile_builtIn h1 h0⟩
    | false =>
      cases hr : parseRecord (i.memory.take 131) with
      | some rec => exact .inl ⟨_, _, _, loadProfile_record (h0.trans h1.symm) hr⟩
      | none => exact .inr (.inl (loadProfile_failed h1 h0 hr))
  | true =>
    cases h0 : i.cfg0 with
    | false => exact .inr (.inr ⟨_, loadProfile_awaits h1 h0⟩)
    | true =>
      cases hr : parseRecord (i.memory.take 131) with
      | some rec => exact .inl ⟨_, _, _, loadProfile_record (h0.trans h1.symm) hr⟩
      | none => exact .inl ⟨_, _, _, loadProfile_fallback h1 h0 hr⟩

/-- The request a waiting node begins with, on a link fresh from the entry to RUN (R171). -/
def awaiting (command : List Byte) (u : State) : State := { loading command u with
  comm := { u.comm with
    state := .awaitingProfile, highest := 0, memoryCommand := command, requestTimer := some 2000, buffer := none }
  link := { u.link with queue := [⟨0xFF#8, 0x00#8, 0x0B#8, [0x00#8, 0x00#8]⟩], transmitter := .wait } }

theorem awaitProfile_fresh {command : List Byte} (h : FreshLink u.link) :
    awaitProfile (loading command u) = awaiting command u := by
  have hoffer : offerFrame u.link ⟨0xFF#8, 0x00#8, 0x0B#8, [0x00#8, 0x00#8]⟩ =
      { u.link with queue := [⟨0xFF#8, 0x00#8, 0x0B#8, [0x00#8, 0x00#8]⟩], transmitter := .wait } :=
    offerFrame_empty h.queue (.inl h.transmitter) (by rw [h.mode]; rfl)
  show State.setLink _ (offerFrame u.link ⟨0xFF#8, 0x00#8, 0x0B#8, [0x00#8, 0x00#8]⟩) = _
  rw [hoffer]
  rfl

/-! ## What a kept bond becomes -/

theorem bondStands_kept (b : BondState) : bondStands (keptBondState b) = bondStands b := by
  cases b <;> rfl

theorem keptBondState_of_stands {b : BondState} (h : bondStands b = true) : keptBondState b = b := by
  rcases (bondStands_iff b).1 h with hb | hb <;> rw [hb] <;> rfl

theorem keptEngaged_of_stands {r : Retained} (h : bondStands r.bondState = true) : keptEngaged r = r.engaged :=
  if_pos ((bondStands_kept _).trans h)

theorem keptEngaged_of_not {r : Retained} (h : bondStands r.bondState = false) : keptEngaged r = none :=
  if_neg fun h' => Bool.false_ne_true (h.symm.trans ((bondStands_kept _).symm.trans h'))

/-- A bond state that a start leaves, under an activity (R164, R167). -/
def resumedState (a : Activity) (b : BondState) : BondState :=
  if Sleeps a (keptBondState b) then .unready else keptBondState b

theorem resumedState_of_stands {a : Activity} {b : BondState} (h : bondStands b = true) : resumedState a b = b := by
  unfold resumedState
  rw [keptBondState_of_stands h]
  refine if_neg fun hs => ?_
  rcases hs.2 with hb | hb <;> rw [hb] at h <;> cases h

theorem resumedState_handshake {a : Activity} {b : BondState} (h : b = .proposing ∨ b = .held ∨ b = .free) :
    resumedState a b = if a = .active then .free else .unready := by
  rcases h with h | h | h <;> rw [h] <;> cases a <;> rfl

theorem resumedState_rejected {a : Activity} : resumedState a .rejected = if a = .active then .rejected else .unready := by
  cases a <;> rfl

theorem resumedState_unready {a : Activity} : resumedState a .unready = .unready := by
  cases a <;> rfl

/-- A sleeping engine is engaged with no one. -/
theorem sleeps_keptEngaged {a : Activity} (r : Retained) :
    (if Sleeps a (keptBondState r.bondState) then none else keptEngaged r) = keptEngaged r := by
  split
  next h =>
    refine (if_neg ?_).symm
    rcases h.2 with hb | hb <;> rw [hb] <;> exact Bool.false_ne_true
  next => rfl

theorem keptBondState_bonded_iff (b : BondState) : keptBondState b = .bonded ↔ b = .bonded := by
  cases b <;> simp [keptBondState]

/-- The retained items no start but a cold one changes. -/
def contentsOf (r r' : Retained) : Retained :=
  { r' with
    charge := r.charge, grade := r.grade, number := r.number, freeze := r.freeze, campaign := r.campaign
    coldMarker := r.coldMarker }

/-- What a start that is not cold keeps, from the items it changes. -/
theorem startKeeps_of {t : State} (hret : t.ret = contentsOf s.ret t.ret) (hsec : t.seconds = s.seconds)
    (htable : t.table = ⟨[], keptEngaged s.ret⟩) (heng : t.ret.engaged = keptEngaged s.ret)
    (hstate : bondStands s.ret.bondState = true → t.ret.bondState = s.ret.bondState)
    (hclass : t.bond.bondClass = (restoredBond s.ret).bondClass) (hreport : t.bond.report = none)
    (hcount : t.bond.inconsistency = 0) (hpair : t.bond.pairEn = false) : StartKeeps s t := by
  refine ⟨(congrArg Retained.charge hret).trans rfl, (congrArg Retained.grade hret).trans rfl, hsec,
    (congrArg Retained.number hret).trans rfl, (congrArg Retained.freeze hret).trans rfl,
    (congrArg Retained.campaign hret).trans rfl, (congrArg Retained.coldMarker hret).trans rfl, ?_, fun h => ?_, fun h => ?_⟩
  · rw [htable]
  · rw [htable, heng, keptEngaged_of_stands h, hclass]
    exact ⟨hstate h, rfl, rfl, if_pos ((bondStands_kept _).trans h), hreport, hcount, hpair⟩
  · rw [htable, heng, keptEngaged_of_not h, hclass]
    exact ⟨rfl, rfl, if_neg fun h' => Bool.false_ne_true (h.symm.trans ((bondStands_kept _).symm.trans h'))⟩

theorem bondResumes_of {t : State} {p : Profile} {a : Activity}
    (htimer : t.bond.partnerTimer =
      if s.ret.bondState = .bonded then some (p.partnerTimeout * p.announceInterval) else none)
    (hstate : s.ret.bondState ≠ .unready → t.ret.bondState = resumedState a s.ret.bondState) : BondResumes p a s t := by
  refine ⟨fun h => htimer.trans (if_pos h), fun h => htimer.trans (if_neg h), fun h => ?_, fun h => ?_⟩
  · rw [hstate (by rcases h with h | h | h <;> rw [h] <;> exact BondState.noConfusion), resumedState_handshake h]
  · rw [hstate (by rw [h]; exact BondState.noConfusion), h, resumedState_rejected]

end Sys2Proof.Machine
end

section
/-! SUPPORT. What LOADING leaves, by its outcome, on the contents a start goes on with (R164 to R171, R174, R175, R186). -/

namespace Sys2Proof.Machine

variable {s u : State} {i : StartInputs} {rec : LoadedRecord} {source : ProfileSource} {command : List Byte} {k : StartKind}
  {fe : FrontEnd}

/-! ## NUMBERING under a profile that has come into force -/

theorem FreshLink.reopen {l : Link} (h : FreshLink l) (p : Profile) : FreshLink (reopenLink p l) := by
  have hidle : l.transmitter ≠ .sending := by rw [h.transmitter]; exact TransmitterState.noConfusion
  rw [reopenLink_eq p rfl, if_neg hidle]
  exact ⟨h.mode, h.queue, h.transmitter⟩

theorem freshLink_hunting : FreshLink huntingLink := ⟨rfl, rfl, rfl⟩

/-- The commissioning unit as every LOADING begins it. -/
structure FreshUnit (c : Commissioning) : Prop where
  highest : c.highest = 0
  quietTimer : c.quietTimer = none
  share : c.share = none

theorem numberingBegins_same (h : u.ret.profileCheck = none ∨ u.ret.profileCheck = some rec.check) (hl : FreshLink u.link)
    (hc : FreshUnit u.comm) : NumberingBegins rec.profile u.ret.number (settle (profileInForce rec source u)) := by
  obtain ⟨hprof, hnumber⟩ := startBond_broughtInForce_reads rec source u
  have hstate := startBond_broughtInForce rec source u
  have hlink : (startBond (broughtInForce rec source u)).link = reopenLink rec.profile u.link := by rw [hstate]; rfl
  have hcomm : (startBond (broughtInForce rec source u)).comm = u.comm := by rw [hstate]; rfl
  have hbegins := numberingBegins (s := startBond (broughtInForce rec source u)) (hlink ▸ hl.reopen rec.profile)
    (hcomm ▸ hc.highest) (hcomm ▸ hc.quietTimer) (hcomm ▸ hc.share)
  rw [hprof, hnumber] at hbegins
  rw [profileInForce_same source h]
  exact hbegins

theorem numberingBegins_cooled {c : Word16} (h : u.ret.profileCheck = some c) (hne : c ≠ rec.check) (hl : FreshLink u.link)
    (hc : FreshUnit u.comm) : NumberingBegins rec.profile none (settle (profileInForce rec source u)) := by
  rw [profileInForce_other source h hne]
  exact numberingBegins (s := broughtInForce rec source (cooled u)) (hl.reopen rec.profile) hc.highest hc.quietTimer hc.share

theorem freshUnit_loading : FreshUnit (loading command (entered k fe s)).comm := ⟨rfl, rfl, rfl⟩

/-! ## A profile that LOADING has brought into force -/

section Taken

/-- The state after a LOADING that brought a profile into force. -/
abbrev takenState (rec : LoadedRecord) (source : ProfileSource) (command : List Byte) (k : StartKind) (fe : FrontEnd) (s : State) :
    State := profileInForce rec source (loading command (entered k fe s))

/-- The bond engine under a profile that leaves the contents standing (R164). -/
theorem takenState_bond (h : s.ret.profileCheck = none ∨ s.ret.profileCheck = some rec.check) :
    (takenState rec source command k fe s).bond = { restoredBond s.ret with
      partnerTimer := if s.ret.bondState = .bonded
        then some (rec.profile.partnerTimeout * rec.profile.announceInterval) else none } := by
  obtain ⟨-, -, hbond⟩ := profileInForce_keeps_contents (s := loading command (entered k fe s)) (rec := rec) source h
  refine hbond.trans ?_
  by_cases hb : s.ret.bondState = .bonded
  · rw [if_pos hb]
    exact if_pos ((keptBondState_bonded_iff _).2 hb)
  · rw [if_neg hb]
    exact if_neg (mt (keptBondState_bonded_iff _).1 hb)

/-- The contents under such a profile (R164, R167). -/
theorem takenState_dom (h : s.ret.profileCheck = none ∨ s.ret.profileCheck = some rec.check) :
    (takenState rec source command k fe s).dom = { s.dom with ret := { profiled rec source s.ret with
      bondState := resumedState rec.profile.startActivity s.ret.bondState, engaged := keptEngaged s.ret } } := by
  obtain ⟨hdom, -, -⟩ := profileInForce_keeps_contents (s := loading command (entered k fe s)) (rec := rec) source h
  have heng := sleeps_keptEngaged (a := rec.profile.startActivity) s.ret
  refine hdom.trans ?_
  rw [← heng]
  rfl

theorem takenState_table (h : s.ret.profileCheck = none ∨ s.ret.profileCheck = some rec.check) :
    (takenState rec source command k fe s).table = ⟨[], keptEngaged s.ret⟩ :=
  (profileInForce_keeps_contents (s := loading command (entered k fe s)) (rec := rec) source h).2.1

/-- A LOADING that brings a profile into force, with either outcome of the comparison (R167, R174, R175, R191). -/
theorem profileTaken (rec : LoadedRecord) (source : ProfileSource) (command : List Byte) (k : StartKind) (fe : FrontEnd) (s : State) :
    ProfileTaken rec.profile rec.check source s (settle (takenState rec source command k fe s)) := by
  obtain ⟨r, b, n, hret, hfe, -⟩ := profileInForce_sets rec source (loading command (entered k fe s))
  unfold ProfileTaken
  refine ⟨?_, ?_, ?_, ?_, ?_, ?_, ?_, ?_, ?_, ?_, ?_, fun h => ⟨?_, ?_, ?_, fun hb => ?_⟩, fun c hc hne => ?_⟩
  case refine_12 =>
    have hdom := takenState_dom (source := source) (command := command) (k := k) (fe := fe) h
    have hbond := takenState_bond (source := source) (command := command) (k := k) (fe := fe) h
    have hstate : (settle (takenState rec source command k fe s)).ret.bondState
        = resumedState rec.profile.startActivity s.ret.bondState := by
      rw [settle_ret, State.ret, hdom]
    refine startKeeps_of ?_ ?_ ?_ ?_ (fun hs => hstate.trans (resumedState_of_stands hs)) ?_ ?_ ?_ ?_
    · rw [settle_ret, State.ret, hdom]
      rfl
    · rw [settle_seconds, State.seconds, hdom]
      rfl
    · rw [settle_table, takenState_table h]
    · rw [settle_ret, State.ret, hdom]
    · rw [settle_bond, hbond]
    all_goals
      rw [settle_bond, hbond]
      rfl
  case refine_13 =>
    refine bondResumes_of ?_ fun _ => ?_
    · rw [settle_bond, takenState_bond h]
    · rw [settle_ret, State.ret, takenState_dom h]
  case refine_14 => exact numberingBegins_same (u := loading command (entered k fe s)) h freshLink_hunting freshUnit_loading
  case refine_15 =>
    rw [settle_ret, State.ret, takenState_dom h]
    exact (congrArg _ hb).trans resumedState_unready
  case refine_16 =>
    obtain ⟨hdom, htable, -⟩ := profileInForce_cools (s := loading command (entered k fe s)) source hc hne
    have hbegins := numberingBegins_cooled (source := source) (u := loading command (entered k fe s)) hc hne freshLink_hunting
      freshUnit_loading
    refine ⟨?_, ?_, ?_, ?_, ?_, ?_, ?_, ?_, ?_, ?_, ?_, hbegins⟩
    case refine_2 => rw [settle_grade, State.grade, hdom]; rfl
    case refine_3 => rw [settle_seconds, State.seconds, hdom]; rfl
    case refine_11 => rw [settle_table, htable]
    all_goals
      rw [settle_ret, State.ret, hdom]
      rfl
  case refine_9 => rw [settle_fe, hfe]; rfl
  case refine_10 => rw [settle_fe, hfe]; rfl
  case refine_11 => rw [settle_fe, hfe]; rfl
  all_goals
    rw [settle_ret, hret]
    rfl

/-- The commissioning unit keeps the command of the read that it has given the memory (R168). -/
theorem takenState_comm (rec : LoadedRecord) (source : ProfileSource) (command : List Byte) (k : StartKind) (fe : FrontEnd)
    (s : State) : (takenState rec source command k fe s).comm.memoryCommand = command := by
  obtain ⟨v, hv, hcomm, -⟩ := profileInForce_numbers rec source (loading command (entered k fe s))
  show (profileInForce rec source (loading command (entered k fe s))).comm.memoryCommand = command
  rw [hv, (enterNumbering_frame v).memoryCommand, hcomm]
  rfl

end Taken

/-! ## A LOADING that leaves the node without a profile -/

/-- The contents of a start without a profile (R164, R167). -/
theorem profileLacking_of {t : State} {state : CommissioningState}
    (hdom : t.dom = (loading command (entered k fe s)).dom) (htable : t.table = ⟨[], keptEngaged s.ret⟩)
    (hbond : t.bond = restoredBond s.ret)
    (hcomm : t.comm.state = state ∧ t.comm.numbering = none ∧ t.comm.held = none ∧ t.comm.highest = 0 ∧ t.comm.share = none)
    (hmode : t.link.mode = .listen) : ProfileLacking state s (settle t) := by
  obtain ⟨hstate, hnumbering, hheld, hhighest, hshare⟩ := hcomm
  unfold ProfileLacking
  rw [settle_comm_idle hshare, settle_mode, settle_bond, settle_ret, State.ret, hdom, hbond]
  refine ⟨startKeeps_of ?_ ?_ ?_ ?_ (fun hs => ?_) ?_ ?_ ?_ ?_, hstate, hnumbering, hheld, hhighest, rfl, rfl, rfl, rfl, rfl, rfl,
    hmode, rfl, ?_⟩
  · rw [settle_ret, State.ret, hdom]
    rfl
  · rw [settle_seconds, State.seconds, hdom]
    rfl
  · rw [settle_table, htable]
  · rw [settle_ret, State.ret, hdom]
    rfl
  · rw [settle_ret, State.ret, hdom]
    exact keptBondState_of_stands hs
  case refine_10 =>
    show keptBondState s.ret.bondState = _
    cases s.ret.bondState <;> rfl
  · rw [settle_bond, hbond]
  all_goals
    rw [settle_bond, hbond]
    rfl

/-- The built-in default brought into force (R166). -/
theorem builtInTaken (command : List Byte) (k : StartKind) (fe : FrontEnd) (s : State) :
    ProfileTaken Config.defaultProfile (crc (recordBody Config.defaultProfile)) .builtIn s
      (settle (takenState defaultRecord .builtIn command k fe s)) := by
  rw [defaultRecord]
  generalize crc (recordBody Config.defaultProfile) = c
  exact profileTaken ⟨Config.defaultProfile, c⟩ .builtIn command k fe s

/-- The loading of a start, by the straps (R166, R168, R170, R171). -/
theorem loadsByStraps (i : StartInputs) (k : StartKind) (fe : FrontEnd) (s : State) :
    LoadsByStraps i s (settle (loadProfile i (entered k fe s))) := by
  have hread : ∀ rec source command, (settle (takenState rec source command k fe s)).comm.memoryCommand = command :=
    fun rec source command => (settle_memoryCommand _).trans (takenState_comm rec source command k fe s)
  have hawaits : ∀ command, awaitProfile (loading command (entered k fe s)) = awaiting command (entered k fe s) :=
    fun command => awaitProfile_fresh freshLink_hunting
  unfold LoadsByStraps
  refine ⟨fun h1 h0 => ?_, fun h => ?_, fun h r hr => ?_, fun h1 h0 hr => ?_, fun h1 h0 hr => ?_, fun h1 h0 => ?_⟩
  · rw [loadProfile_builtIn h1 h0]
    exact ⟨builtInTaken _ k fe s, hread defaultRecord .builtIn _⟩
  · cases hr : parseRecord (i.memory.take 131) with
    | some rec =>
      rw [loadProfile_record h hr]
      exact hread rec .externalMemory _
    | none =>
      cases h1 : i.cfg1 with
      | true =>
        rw [loadProfile_fallback h1 (h.trans h1) hr]
        exact hread defaultRecord .builtIn _
      | false =>
        rw [loadProfile_failed h1 (h.trans h1) hr]
        exact settle_memoryCommand _
  · rw [loadProfile_record h hr]
    exact profileTaken r .externalMemory _ k fe s
  · rw [loadProfile_fallback h1 h0 hr]
    exact builtInTaken _ k fe s
  · rw [loadProfile_failed h1 h0 hr]
    refine ⟨profileLacking_of (command := readCommand) (fe := fe) (k := k) rfl rfl rfl ⟨rfl, rfl, rfl, rfl, rfl⟩ rfl, ?_,
      (settle_alert_iff _).2 ⟨rfl, .inl rfl⟩, (settle_chainOut_failed rfl rfl).trans (settle_chainIn _).symm⟩
    rw [settle_link_idle rfl]
    rfl
  · rw [loadProfile_awaits h1 h0, hawaits]
    refine ⟨profileLacking_of (command := (entered k fe s).comm.memoryCommand) (fe := fe) (k := k) rfl rfl rfl
      ⟨rfl, rfl, rfl, rfl, rfl⟩ rfl, settle_memoryCommand _, settle_requestTimer _, settle_buffer _, ?_⟩
    rw [settle_link_idle rfl]
    rfl

end Sys2Proof.Machine
end

section
/-! SUPPORT. The cold start (R164, R166, R186, R187). Settles O57. -/

namespace Sys2Proof.Machine

variable {s : State} {i : StartInputs}

/-! ## The retained items and the blocks of a cold start -/

/-- Every retained item at its cold start value, but for what LOADING sets; the check words written (R187, R190). -/
def ColdItems (t : State) : Prop :=
  t.ret.charge = 0 ∧ t.ret.residue = 0 ∧ t.ret.points = [] ∧ t.ret.offered = none ∧ t.ret.lastPulse = none
    ∧ t.grade = emptyGrade ∧ t.ret.bondState = .unready ∧ t.ret.engaged = none ∧ t.ret.freeze = false
    ∧ t.ret.number = none ∧ t.ret.campaign = none ∧ t.ret.coldMarker = true
    ∧ t.seconds = 0 ∧ t.dom.secondsCopy = 0 ∧ t.dom.word1 = 0xAA55#16 ∧ t.dom.word2 = 0x55AA#16

/-- Every block at its start, with the first readings taken (R37, R51, R84, R98, R164). -/
def ColdBlocks (i : StartInputs) (t : State) : Prop :=
  t.table = ⟨[], none⟩ ∧ t.bond = ⟨none, none, none, none, 0, none, none, false, false⟩
    ∧ t.rest = ⟨.moving, none, none, none, []⟩ ∧ t.pulse = ⟨.idle, 0, false, none, none⟩ ∧ t.fp = ⟨none, none⟩
    ∧ t.link.mode = .listen ∧ t.link.fifo = [] ∧ t.link.receiver.state = .hunt ∧ t.comm.highest = 0
    ∧ t.fe = firstReadings i (prof t)

/-- A cold start's contents under a profile, or without one: the domain, of which no other item differs. -/
theorem coldItems_of {w : State} {r : Retained} (hr : w.dom = { coldDomain with ret := r })
    (hcold : r = { coldRetained with
      profile := r.profile, source := r.source, inForce := r.inForce, profileCheck := r.profileCheck, activity := r.activity }) :
    ColdItems (settle w) := by
  obtain ⟨hword1, hword2, -, hcopy⟩ := settle_words w
  unfold ColdItems
  rw [settle_ret, settle_grade, settle_seconds, hword1, hword2, hcopy, State.grade, State.ret, State.seconds, hr, hcold]
  exact ⟨rfl, rfl, rfl, rfl, rfl, rfl, rfl, rfl, rfl, rfl, rfl, rfl, rfl, rfl, rfl, rfl⟩

/-- The blocks at the end of the event, from the blocks before it. -/
theorem coldBlocks_settle {w : State} (h : ColdBlocks i w) : ColdBlocks i (settle w) := by
  obtain ⟨htable, hbond, hrest, hpulse, hfp, hmode, hfifo, hreceiver, hhighest, hfe⟩ := h
  have hprof : prof (settle w) = prof w := by
    unfold prof
    rw [settle_ret]
  refine ⟨?_, ?_, ?_, ?_, ?_, ?_, ?_, ?_, ?_, ?_⟩
  · rw [settle_table, htable]
  · rw [settle_bond, hbond]
  · rw [settle_rest, hrest]
  · rw [settle_pulse, hpulse]
  · rw [settle_fp, hfp]
  · rw [settle_mode, hmode]
  · rw [settle_fifo, hfifo]
  · rw [settle_receiver, hreceiver]
  · rw [settle_highest, hhighest]
  · rw [settle_fe, hfe, hprof]

/-- The state LOADING is entered in at a cold start. -/
abbrev coldEntered (k : StartKind) (i : StartInputs) (s : State) : State :=
  entered k (firstReadings i Config.holdingProfile) (onColdDomain s)

theorem reopenLink_reads (p : Profile) (l : Link) :
    (reopenLink p l).mode = l.mode ∧ (reopenLink p l).fifo = l.fifo ∧ (reopenLink p l).receiver.state = .hunt := by
  rw [reopenLink_eq p rfl]
  split <;> exact ⟨rfl, rfl, rfl⟩

/-- A cold start under a profile that has come into force. -/
theorem cold_taken (rec : LoadedRecord) (source : ProfileSource) (command : List Byte) (k : StartKind) (i : StartInputs)
    (s : State) : ColdItems (settle (profileInForce rec source (loading command (coldEntered k i s))))
      ∧ ColdBlocks i (settle (profileInForce rec source (loading command (coldEntered k i s)))) := by
  have hnone : (onColdDomain s).ret.profileCheck = none ∨ (onColdDomain s).ret.profileCheck = some rec.check := .inl rfl
  have hdom := takenState_dom (source := source) (command := command) (k := k) (fe := firstReadings i Config.holdingProfile) hnone
  have hunready : resumedState rec.profile.startActivity (onColdDomain s).ret.bondState = .unready := resumedState_unready
  rw [hunready] at hdom
  refine ⟨coldItems_of hdom rfl, coldBlocks_settle ?_⟩
  obtain ⟨r, b, n, hret, hfe, hrest, hpulse, hfp, -⟩ := profileInForce_sets rec source (loading command (coldEntered k i s))
  obtain ⟨v, hv, hcomm, hlink, -⟩ := profileInForce_numbers rec source (loading command (coldEntered k i s))
  have hnumbers := enterNumbering_frame v
  rw [← hv] at hnumbers
  obtain ⟨hmode, hfifo, hreceiver⟩ := reopenLink_reads rec.profile huntingLink
  have hprof : prof (profileInForce rec source (loading command (coldEntered k i s))) = rec.profile := by
    unfold prof
    rw [hret]
    rfl
  refine ⟨takenState_table hnone, (takenState_bond hnone).trans rfl, hrest, hpulse, hfp, ?_, ?_, ?_, ?_, ?_⟩
  · rw [hnumbers.mode, hlink]
    exact hmode
  · rw [hnumbers.fifo, hlink]
    exact hfifo
  · rw [hnumbers.receiver, hlink]
    exact hreceiver
  · rw [hnumbers.highest, hcomm]
    rfl
  · rw [hfe, hprof]
    rfl

/-- A cold start in every outcome of LOADING. -/
theorem cold_loaded (k : StartKind) (i : StartInputs) (s : State) :
    ColdItems (settle (loadProfile i (coldEntered k i s))) ∧ ColdBlocks i (settle (loadProfile i (coldEntered k i s))) := by
  rcases loadProfile_cases i (coldEntered k i s) with ⟨rec, source, command, h⟩ | h | ⟨command, h⟩ <;> rw [h]
  · exact cold_taken rec source command k i s
  · exact ⟨coldItems_of rfl rfl, coldBlocks_settle ⟨rfl, rfl, rfl, rfl, rfl, rfl, rfl, rfl, rfl, rfl⟩⟩
  · rw [awaitProfile_fresh freshLink_hunting]
    exact ⟨coldItems_of rfl rfl, coldBlocks_settle ⟨rfl, rfl, rfl, rfl, rfl, rfl, rfl, rfl, rfl, rfl⟩⟩

/-- On the cold domain a profile that comes into force numbers the node afresh (R174, R175). -/
theorem profileTaken_cold {p : Profile} {check : Word16} {source : ProfileSource} {t : State}
    (h : ProfileTaken p check source (onColdDomain s) t) :
    t.ret.inForce = true ∧ t.ret.profile = some p ∧ t.ret.source = some source ∧ t.ret.profileCheck = some check
      ∧ t.ret.activity = p.startActivity ∧ NumberingBegins p none t := by
  obtain ⟨hin, hprofile, hsource, hcheck, hactivity, -, -, -, -, -, -, hsame, -⟩ := h
  exact ⟨hin, hprofile, hsource, hcheck, hactivity, (hsame (.inl rfl)).2.2.1⟩

theorem profileLacking_cold {state : CommissioningState} {t : State} (h : ProfileLacking state (onColdDomain s) t) :
    t.comm.state = state ∧ t.comm.numbering = none ∧ t.comm.held = none ∧ t.ret.inForce = false ∧ t.ret.profile = none
      ∧ t.ret.source = none ∧ t.ret.profileCheck = none ∧ t.ret.activity = .dormant := by
  obtain ⟨-, hstate, hnumbering, hheld, -, hin, hprofile, hsource, hcheck, hactivity, -⟩ := h
  exact ⟨hstate, hnumbering, hheld, hin, hprofile, hsource, hcheck, hactivity⟩

/-- A cold start, whole (R166, R174, R175, R186, R187, R190, R191). -/
theorem startsCold (k : StartKind) (i : StartInputs) (s : State) :
    StartsCold i (settle (loadProfile i (coldEntered k i s))) := by
  obtain ⟨hitems, hblocks⟩ := cold_loaded k i s
  obtain ⟨hbuiltIn, hread, hrecord, hfallback, hfailed, hawaits⟩ :=
    loadsByStraps i k (firstReadings i Config.holdingProfile) (onColdDomain s)
  unfold StartsCold
  refine ⟨hitems, hblocks, fun hne => ?_, hread, fun h1 h0 => ?_, fun h1 h0 hr => ?_, fun h r hr => ?_, fun h1 h0 hr => ?_,
    fun h1 h0 => ?_⟩
  · cases h1 : i.cfg1 with
    | false =>
      have h0 : i.cfg0 = true := Bool.eq_true_of_not_eq_false fun h0 => hne (h0.trans h1.symm)
      exact (hbuiltIn h1 h0).2
    | true =>
      have h0 : i.cfg0 = false := Bool.eq_false_iff.2 fun h0 => hne (h0.trans h1.symm)
      exact (hawaits h1 h0).2.1
  · exact profileTaken_cold (hbuiltIn h1 h0).1
  · exact profileTaken_cold (hfallback h1 h0 hr)
  · exact profileTaken_cold (hrecord h r hr)
  · obtain ⟨hlacks, hrest⟩ := hfailed h1 h0 hr
    exact ⟨profileLacking_cold hlacks, hrest⟩
  · obtain ⟨hlacks, -, hrest⟩ := hawaits h1 h0
    exact ⟨profileLacking_cold hlacks, hrest⟩

/-! ## Power-up -/

/-- A start that leaves RUN's other pins to the end of its event: the two watched lines stand. -/
theorem settle_start_pins (k : StartKind) (i : StartInputs) (s : State) :
    (settle (startWith k i s)).pins.chainIn = s.pins.chainIn ∧ (settle (startWith k i s)).pins.reset = s.pins.reset := by
  obtain ⟨x, hx, -, hpins, -⟩ := startWith_keeps k i s
  have hkept : (startWith k i s).pins = s.pins := hx.pins.trans hpins
  rw [settle_pins_eq, hkept]
  exact ⟨rfl, rfl⟩

theorem settle_start_run (k : StartKind) (i : StartInputs) (s : State) : (settle (startWith k i s)).supply.state = .run := by
  rw [settle_supply]
  exact decide_eq_true_iff.1 (startWith_sound k i s).1

theorem loadProfile_entered_supply (k : StartKind) (i : StartInputs) (fe : FrontEnd) (s : State) :
    (settle (loadProfile i (entered k fe s))).supply = ⟨.run, k⟩ :=
  (settle_supply _).trans (loadProfile_keeps i (entered k fe s)).supply

theorem exec_runLevel_off (h : s.supply.state = .off) : exec (.supplyAtRunLevel i) s =
    .next (settle (if s.pins.reset = true then setSupplyState .reset .cold s else startWith .cold i s)) := by
  show execSupplyAtRunLevel i s = _
  unfold execSupplyAtRunLevel
  rw [h]
  rfl

/-- Settles O57: the line held, or the cold start with its loading. -/
theorem powerUpStartsCold : Obligations.PowerUpStartsCold := by
  unfold Obligations.PowerUpStartsCold
  intro i s hoff
  refine ⟨fun hr => ?_, fun hr => ?_⟩
  · rw [exec_runLevel_off hoff, if_pos hr]
    rfl
  · have hexec : exec (.supplyAtRunLevel i) s = .next (settle (startWith .cold i s)) := by
      rw [exec_runLevel_off hoff, hr, if_neg Bool.false_ne_true]
    obtain ⟨hchain, hreset⟩ := settle_start_pins .cold i s
    have hstart : startWith .cold i s = loadProfile i (coldEntered .cold i s) := startWith_cold (.inl rfl)
    refine ⟨_, hexec, ?_, hchain, hreset.trans hr, ?_⟩
    · rw [hstart]
      exact loadProfile_entered_supply _ i _ _
    · rw [hstart]
      exact startsCold .cold i s

end Sys2Proof.Machine
end

section
/-! SUPPORT. The warm return (R137, R164, R175, R182, R184, R186). Settles O58. -/

namespace Sys2Proof.Machine

variable {s : State} {i : StartInputs}

/-! ## A return to work with the profile in force -/

/-- The state a warm return resumes in, before the commissioning unit does (R164). -/
abbrev resumed (i : StartInputs) (s : State) : State := startBond (entered .warm (firstReadings i (prof s)) s)

/-- The bond engine that a warm return resumes with. -/
def resumedBond (s : State) : BondEngine := { restoredBond s.ret with
  partnerTimer := if s.ret.bondState = .bonded then some ((prof s).partnerTimeout * (prof s).announceInterval) else none }

/-- The contents that it resumes with, but for what an entry to UP makes of an UNREADY engine. -/
def resumedRet (b : BondState) (s : State) : Retained := { s.ret with bondState := b, engaged := keptEngaged s.ret }

theorem resumed_eq (i : StartInputs) (s : State) : resumed i s = { entered .warm (firstReadings i (prof s)) s with
    dom := { s.dom with ret := resumedRet (resumedState s.ret.activity s.ret.bondState) s }
    bond := resumedBond s } := by
  have hbond : (if keptBondState s.ret.bondState = .bonded
      then { restoredBond s.ret with partnerTimer := some ((prof s).partnerTimeout * (prof s).announceInterval) }
      else restoredBond s.ret) = resumedBond s := by
    unfold resumedBond
    by_cases hb : s.ret.bondState = .bonded
    · rw [if_pos hb, if_pos ((keptBondState_bonded_iff _).2 hb)]
    · rw [if_neg hb, if_neg (mt (keptBondState_bonded_iff _).1 hb)]
      rfl
  rw [resumed, startBond_eq]
  unfold resumedRet
  rw [← hbond, ← sleeps_keptEngaged (a := s.ret.activity) s.ret]
  rfl

/-- What stands at a return to work, and what it begins with (R137, R164, R182). -/
def Resumes (i : StartInputs) (s t : State) : Prop :=
  StartKeeps s t ∧ BondResumes (prof s) s.ret.activity s t ∧ t.supply = ⟨.run, .warm⟩
    ∧ t.ret.inForce = true ∧ t.ret.profile = s.ret.profile ∧ t.ret.source = s.ret.source
    ∧ t.ret.profileCheck = s.ret.profileCheck ∧ t.ret.activity = s.ret.activity
    ∧ t.ret.residue = s.ret.residue ∧ t.ret.points = s.ret.points ∧ t.ret.offered = s.ret.offered
    ∧ t.ret.lastPulse = s.ret.lastPulse ∧ t.fe = firstReadings i (prof s)

theorem resumes_of {t : State} {b : BondState} {proposal : Option Nat} (hin : s.ret.inForce = true)
    (hret : t.ret = resumedRet b s) (hb : s.ret.bondState ≠ .unready → b = resumedState s.ret.activity s.ret.bondState)
    (hsec : t.seconds = s.seconds) (htable : t.table = ⟨[], keptEngaged s.ret⟩)
    (hbond : t.bond = { resumedBond s with proposalTimer := proposal }) (hsup : t.supply = ⟨.run, .warm⟩)
    (hfe : t.fe = firstReadings i (prof s)) : Resumes i s t := by
  have hstate : t.ret.bondState = b := by rw [hret]; rfl
  have hstands : bondStands s.ret.bondState = true → s.ret.bondState ≠ .unready := fun h hu => by
    rw [hu] at h
    cases h
  unfold Resumes
  refine ⟨startKeeps_of ?_ hsec htable ?_ (fun h => ?_) ?_ ?_ ?_ ?_, bondResumes_of ?_ fun h => hstate.trans (hb h), hsup, ?_, ?_,
    ?_, ?_, ?_, ?_, ?_, ?_, ?_, hfe⟩
  case refine_1 => rw [hret]; rfl
  case refine_2 => rw [hret]; rfl
  case refine_3 => exact hstate.trans ((hb (hstands h)).trans (resumedState_of_stands h))
  case refine_4 => rw [hbond]; rfl
  case refine_5 => rw [hbond]; rfl
  case refine_6 => rw [hbond]; rfl
  case refine_7 => rw [hbond]; rfl
  case refine_8 => rw [hbond]; rfl
  case refine_9 => rw [hret]; exact hin
  all_goals
    rw [hret]
    rfl

/-! ## With a number: NUMBERED and UP -/

/-- The unit NUMBERED with the number it held (R182). -/
def numbered (n : NodeNumber) (s : State) : State := { s with
  comm := { s.comm with state := .ready, numbering := some .numbered, method := some n.method, held := some n.number } }

theorem resumeCommissioning_number {n : NodeNumber} (h : s.ret.number = some n) :
    resumeCommissioning s = linkUp (numbered n s) := by
  unfold resumeCommissioning
  rw [h]
  rfl

theorem resumeCommissioning_none (h : s.ret.number = none) : resumeCommissioning s = enterNumbering s := by
  unfold resumeCommissioning
  rw [h]

/-- The readiness test at a return to work: it touches an UNREADY engine only, which is engaged with no one (R140). -/
theorem resumed_readiness (n : NodeNumber) (i : StartInputs) (s : State) :
    (readinessTest (upState (numbered n (resumed i s)))).ret.engaged = keptEngaged s.ret
      ∧ (s.ret.bondState ≠ .unready →
        (readinessTest (upState (numbered n (resumed i s)))).ret.bondState = resumedState s.ret.activity s.ret.bondState)
      ∧ (s.ret.bondState = .unready → recordComplete s.grade = true → s.ret.activity = .active →
        ∀ k, s.grade.gradeClass = some k →
          (readinessTest (upState (numbered n (resumed i s)))).ret.bondState = if k = .x then .rejected else .free)
      ∧ (s.ret.bondState = .unready → recordComplete s.grade = false ∨ s.ret.activity = .dormant →
        (readinessTest (upState (numbered n (resumed i s)))).ret.bondState = .unready) := by
  have hret : (upState (numbered n (resumed i s))).ret = resumedRet (resumedState s.ret.activity s.ret.bondState) s := by
    show (resumed i s).ret = _
    rw [resumed_eq]
    rfl
  have hgrade : (numbered n (resumed i s)).grade = s.grade := (congrArg Retained.grade hret).trans rfl
  have hactivity : (numbered n (resumed i s)).ret.activity = s.ret.activity := (congrArg Retained.activity hret).trans rfl
  have hstate : (numbered n (resumed i s)).ret.bondState = resumedState s.ret.activity s.ret.bondState :=
    (congrArg Retained.bondState hret).trans rfl
  obtain ⟨hready, hnot⟩ := upState_readiness (numbered n (resumed i s))
  refine ⟨?_, fun hb => ?_, fun hb hc ha k hk => ?_, fun hb h => ?_⟩
  · rcases readinessTest_cases (upState (numbered n (resumed i s))) with h | ⟨hu, -, -, -, k, -, h⟩ <;> rw [h]
    · rw [hret]
      rfl
    · rw [hret] at hu
      refine (keptEngaged_of_not (Bool.eq_false_iff.2 fun hs => ?_)).symm
      have hb : s.ret.bondState = .unready := (resumedState_of_stands hs).symm.trans hu
      rw [hb] at hs
      cases hs
  · rw [hnot ?_, hret]
    · rfl
    · rw [hstate, hactivity]
      by_cases ha : s.ret.activity = .dormant
      · exact .inr (.inr ha)
      · refine .inl ?_
        unfold resumedState
        rw [if_neg fun hs => ha hs.1]
        cases hs : s.ret.bondState <;> simp_all [keptBondState]
  · rw [hready (by rw [hstate, hb, resumedState_unready]) (by rw [hgrade, hc]) (hactivity.trans ha) k (by rw [hgrade, hk])]
    rfl
  · rw [hnot (.inr (by rw [hgrade, hactivity]; exact h)), hret]
    exact (congrArg _ hb).trans resumedState_unready

/-! ## The warm return -/

theorem exec_runLevel_hold (h : s.supply.state = .hold) :
    exec (.supplyAtRunLevel i) s = .next (settle (startWith .warm i s)) := by
  show execSupplyAtRunLevel i s = _
  unfold execSupplyAtRunLevel
  rw [h]
  rfl

/-- A loading that has brought no profile into force leaves the points and the pair as the start had them (R167). -/
theorem loadProfile_lacking_points (k : StartKind) (i : StartInputs) (fe : FrontEnd) (s : State)
    (h : (settle (loadProfile i (entered k fe s))).ret.inForce = false) :
    (settle (loadProfile i (entered k fe s))).ret.points = s.ret.points
      ∧ (settle (loadProfile i (entered k fe s))).ret.offered = s.ret.offered := by
  rw [settle_ret] at h ⊢
  rcases loadProfile_cases i (entered k fe s) with ⟨rec, source, command, hl⟩ | hl | ⟨command, hl⟩ <;> rw [hl] at h ⊢
  · obtain ⟨r, b, n, hret, -⟩ := profileInForce_sets rec source (loading command (entered k fe s))
    rw [hret] at h
    cases h
  · exact ⟨rfl, rfl⟩
  · exact ⟨rfl, rfl⟩

/-- Settles O58: by the check, the profile in force and the number held. -/
theorem warmReturnKeeps : Obligations.WarmReturnKeeps := by
  unfold Obligations.WarmReturnKeeps
  intro i s hhold start volts resumes
  have hstart : start = .next (settle (startWith .warm i s)) := exec_runLevel_hold hhold
  have hv := resumed_eq i s
  refine ⟨fun hu hp hin => ⟨fun n hn => ?_, fun hn => ?_⟩, fun hu hp hin => ?_, fun hp => ?_⟩
  · have hnumber : (resumed i s).ret.number = some n := by rw [hv]; exact hn
    have hw : startWith .warm i s = linkUp (numbered n (resumed i s)) :=
      (startWith_warm_resumes hu hp hin).trans (resumeCommissioning_number hnumber)
    obtain ⟨heng, hstate, hready, hunready⟩ := resumed_readiness n i s
    rw [linkUp_eq, heng] at hw
    generalize (readinessTest (upState (numbered n (resumed i s)))).ret.bondState = b at hw hstate hready hunready
    rw [hv] at hw
    have hresumes : Resumes i s (startWith .warm i s) := by
      rw [hw]
      exact resumes_of (b := b) (proposal := some (n.number * 53 % ((prof s).proposalInterval * 1000))) hin rfl hstate rfl rfl
        rfl rfl rfl
    have hbond : (startWith .warm i s).ret.bondState = b := by rw [hw]; rfl
    refine ⟨_, hstart, hresumes, ?_, ?_, ?_, ?_, ?_, ?_, ?_, fun hb hc ha k hk => hbond.trans (hready hb hc ha k hk),
      fun hb h => hbond.trans (hunready hb h)⟩
    all_goals
      rw [hw]
      rfl
  · have hnumber : (resumed i s).ret.number = none := by rw [hv]; exact hn
    have hw : startWith .warm i s = enterNumbering (resumed i s) :=
      (startWith_warm_resumes hu hp hin).trans (resumeCommissioning_none hnumber)
    rw [hw] at hstart
    have hframe := enterNumbering_frame (resumed i s)
    have hprof : prof (resumed i s) = prof s := by rw [hv]; rfl
    have hcomm : (resumed i s).comm = stoppedCommissioning := by rw [hv]; rfl
    have hlink : (resumed i s).link = huntingLink := by rw [hv]; rfl
    have hbegins := numberingBegins (s := resumed i s) (hlink ▸ freshLink_hunting) (by rw [hcomm]; rfl) (by rw [hcomm]; rfl)
      (by rw [hcomm]; rfl)
    rw [hprof, hnumber] at hbegins
    have hshare : (enterNumbering (resumed i s)).comm.share = none := by rw [hframe.share, hcomm]; rfl
    have hret : (enterNumbering (resumed i s)).ret = resumedRet (resumedState s.ret.activity s.ret.bondState) s := by
      rw [hframe.whole, hv]
      rfl
    have hresumes : Resumes i s (settle (enterNumbering (resumed i s))) := by
      refine resumes_of (proposal := none) hin ((settle_ret _).trans hret) (fun _ => rfl) ?_ ?_ ?_ ?_ ?_
      · rw [settle_seconds, hframe.whole, hv]
        rfl
      · rw [settle_table, hframe.whole, hv]
        rfl
      · rw [settle_bond, hframe.whole, hv]
        rfl
      · rw [settle_supply, hframe.whole, hv]
        rfl
      · rw [settle_fe, hframe.whole, hv]
        rfl
    refine ⟨_, hstart, hresumes, hbegins, ?_, ?_, ?_, ?_, ?_, fun hb => ?_⟩
    · rw [settle_memoryCommand, hframe.memoryCommand, hcomm]
      rfl
    · rw [settle_comm_idle hshare, hshare]
    · rw [settle_receiver, hframe.receiver, hlink]
      rfl
    · rw [settle_fp, hframe.whole, hv]
      rfl
    · rw [settle_bond, hframe.whole, hv]
      rfl
    · rw [settle_ret, hret]
      exact (congrArg _ hb).trans resumedState_unready
  · have hw := startWith_warm_loads hu hp hin
    rw [hw] at hstart
    exact ⟨_, hstart, loadProfile_entered_supply _ _ _ _, loadsByStraps i .warm _ s, loadProfile_lacking_points _ _ _ _⟩
  · have hw : startWith .warm i s = loadProfile i (coldEntered .warm i s) := startWith_cold (.inr hp)
    obtain ⟨hchain, -⟩ := settle_start_pins .warm i s
    refine ⟨_, hstart, settle_start_run .warm i s, hchain, ?_⟩
    rw [hw]
    exact startsCold .warm i s

end Sys2Proof.Machine
end

section
/-! SUPPORT. The RESET line and the starts out of RESET (R184 to R186). Settles O59. -/

namespace Sys2Proof.Machine

variable {s : State} {i : StartInputs}

/-! ## The line -/

theorem exec_resetAsserted_run (h : s.supply.state = .run) :
    exec .resetAsserted s = .next (settle (enterReset (leaveRun (setResetLine true s)))) := by
  show execResetAsserted s = _
  unfold execResetAsserted
  rw [h]
  rfl

theorem exec_resetAsserted_hold (h : s.supply.state = .hold) :
    exec .resetAsserted s = .next (settle (enterReset (setResetLine true s))) := by
  show execResetAsserted s = _
  unfold execResetAsserted
  rw [h]
  rfl

theorem exec_resetAsserted_stopped (h : s.supply.state = .off ∨ s.supply.state = .reset) :
    exec .resetAsserted s = .next (settle (setResetLine true s)) := by
  show execResetAsserted s = _
  unfold execResetAsserted
  rcases h with h | h <;> rw [h] <;> rfl

theorem exec_resetReleased_not {level : Bool} (h : ¬ (s.supply.state = .reset ∧ s.pins.reset = true ∧ level = true)) :
    exec (.resetReleased level i) s = .next (settle (setResetLine false s)) :=
  congrArg (fun t => Host.Outcome.next (settle t)) (if_neg h)

/-- A start out of RESET, by the line's release at run level or by the run level with the line released (R184, R185). -/
theorem exec_start_reset (h : s.supply.state = .reset) :
    exec (if s.pins.reset = true then .resetReleased true i else .supplyAtRunLevel i) s =
      .next (settle (startWith s.supply.kind i (setResetLine false s))) := by
  by_cases hr : s.pins.reset = true
  · rw [if_pos hr]
    exact congrArg (fun t => Host.Outcome.next (settle t)) (if_pos ⟨h, hr, rfl⟩)
  · have hr' : s.pins.reset = false := Bool.eq_false_iff.2 hr
    have hline : setResetLine false s = s := by
      unfold setResetLine
      rw [← hr']
      rfl
    rw [if_neg hr, hline]
    show execSupplyAtRunLevel i s = _
    unfold execSupplyAtRunLevel
    rw [h]
    exact if_neg hr

theorem exec_runLevel_stays (h : s.supply.state = .run ∨ (s.supply.state = .reset ∧ s.pins.reset = true)) :
    exec (.supplyAtRunLevel i) s = .next s := by
  show execSupplyAtRunLevel i s = _
  unfold execSupplyAtRunLevel
  rcases h with h | ⟨h, hr⟩ <;> rw [h]
  · rfl
  · exact if_pos hr

/-! ## The start with the kind RESTART -/

/-- The continuity break of a restart stands through every outcome of LOADING (R36, R186). -/
theorem loadProfile_broken_points (k : StartKind) (i : StartInputs) (fe : FrontEnd) (s : State) :
    (settle (loadProfile i (entered k fe (brokenOff s)))).ret.points = []
      ∧ (settle (loadProfile i (entered k fe (brokenOff s)))).ret.offered = none := by
  rw [settle_ret]
  rcases loadProfile_cases i (entered k fe (brokenOff s)) with ⟨rec, source, command, h⟩ | h | ⟨command, h⟩ <;> rw [h]
  · obtain ⟨r, b, n, hret, -⟩ := profileInForce_sets rec source (loading command (entered k fe (brokenOff s)))
    rw [hret]
    exact ⟨rfl, rfl⟩
  · exact ⟨rfl, rfl⟩
  · exact ⟨rfl, rfl⟩

/-- The loading of a start reads nothing that the continuity break or the line changes. -/
theorem loadsByStraps_brokenOff {t : State} (h : LoadsByStraps i (brokenOff (setResetLine false s)) t) : LoadsByStraps i s t := h

/-- Settles O59: the line in each state, then the two kinds of start. -/
theorem resetRestarts : Obligations.ResetRestarts := by
  unfold Obligations.ResetRestarts
  intro s line stopped
  refine ⟨fun h => ?_, fun h => ?_, fun h => ?_, fun i h => ?_, fun i => ?_, fun i h hp hu => ?_, fun i h hk => ?_, fun i h => ?_⟩
  · rw [exec_resetAsserted_run h, leaveRun_eq]
    rfl
  · rw [exec_resetAsserted_hold h]
    rfl
  · rw [exec_resetAsserted_stopped h]
    rfl
  · refine exec_resetReleased_not fun h' => ?_
    rcases h with h | h
    · exact h h'.1
    · exact Bool.false_ne_true (h.symm.trans h'.2.1)
  · exact exec_resetReleased_not fun h' => Bool.false_ne_true h'.2.2
  · intro start
    have hstate : s.supply.state = .reset := by rw [h]
    have hkind : s.supply.kind = .restart := by rw [h]
    have hexec := exec_start_reset (i := i) hstate
    have hstart := startWith_restart (s := setResetLine false s) hu hp
    obtain ⟨-, hreset⟩ := settle_start_pins .restart i (setResetLine false s)
    rw [hkind] at hexec
    rw [hstart] at hexec hreset
    obtain ⟨hpoints, hoffered⟩ :=
      loadProfile_broken_points .restart i (firstReadings i Config.holdingProfile) (setResetLine false s)
    exact ⟨_, hexec, loadProfile_entered_supply _ _ _ _, hreset, hpoints, hoffered,
      loadsByStraps_brokenOff (loadsByStraps i .restart _ _)⟩
  · intro start
    have hcold : s.supply.kind = .cold ∨ retentionPasses (i.upset.getD s.dom) = false := hk.imp_right And.right
    have hstart := startWith_cold (s := setResetLine false s) (i := i) hcold
    obtain ⟨hchain, hreset⟩ := settle_start_pins s.supply.kind i (setResetLine false s)
    refine ⟨_, exec_start_reset h, settle_start_run _ _ _, hreset, hchain, ?_⟩
    rw [hstart]
    exact startsCold _ i _
  · exact exec_runLevel_stays h

end Sys2Proof.Machine
end
